-- ==== Sys2Proof/Word.lean ====
section
/-! DEFINITION. The widths of the control-mapper block's fields (rules R57, R70): every operand field, result register and
tracker field is one of these bit patterns. How an instruction reads a pattern (`zext`, `sext`) and narrows an exact
integer back to one is in Machine/Operands.lean. -/

namespace Sys2Proof

/-- An 8-bit field: the command word CMD (R70), or the `waveform_offset` operand of SHAPESEL (R72). -/
abbrev Byte := BitVec 8

/-- A 16-bit field: operand A, operand B, a sample, a level, or a curve index (R50, R70). -/
abbrev Code := BitVec 16

/-- A 32-bit field: operand C, a result register, a status read-out, an accumulator or a DAC register (R57). -/
abbrev Word := BitVec 32

/-- A channel index 0..3 (NUM_CH = 4, R6, R54): the 2-bit `ch` field of a command can name no other. -/
abbrev Channel := Fin 4

end Sys2Proof
end

