-- ==== Sys2Proof/Config.lean ====
section
/-! DEFINITION. The implementation parameters of rule R6. A parameter whose value the spec fixes is a number here. A parameter the
spec calls OPEN is a field of `Params`, which the meanings take as an argument (R6, 92_eei_decisions.md), and the hardware's own
value of it is an `opaque` constant without a body: a claim about `Config.hardware` is a claim about every value. Parameters are
configuration and no part of State (R33). -/

namespace Sys2Proof.Config

/-! ### Parameters with a value (R6) -/

/-- SUBSAMPLE_SCALE: sub-tick units per tick. -/
abbrev subsampleScale : Int := 32
/-- PITCH_HYST = tdiv(32767, 20) (R6, R191). -/
abbrev pitchHyst : Int := 1638
/-- NEARFS_MARGIN. -/
abbrev nearfsMargin : Int := 256
/-- QUAD_PHASE_STEP: a quarter cycle. -/
abbrev quadPhaseStep : Int := 16384
/-- SLAVE_DIV_SPAN. -/
abbrev slaveDivSpan : Int := 7
/-- SLAVE_DIV_MIN. -/
abbrev slaveDivMin : Int := 1
/-- SLAVE_DIV_MAX. -/
abbrev slaveDivMax : Int := 16
/-- SYNC_SCALE_NUM. -/
abbrev syncScaleNum : Int := 8
/-- SYNC_SCALE_DEN. -/
abbrev syncScaleDen : Int := 32767
/-- `<< MIX_SHIFT_IN`, read as multiplication by 2^13 (R11, R214). -/
abbrev mixScaleIn : Int := 8192
/-- `<< MIX_SHIFT_OUT`, read as multiplication by 2^3 (R11, R214). -/
abbrev mixScaleOut : Int := 8
/-- MIX_GAIN_FLOOR. -/
abbrev mixGainFloor : Int := 65535
/-- The largest 16-bit code, full scale (R180, R101). -/
abbrev fullScale : Int := 65535

end Sys2Proof.Config

namespace Sys2Proof

/-- The parameters that R6 leaves OPEN, together with RT_DISARM_ON_FIRE, whose two values are both specified (R142). The one
constraint R6 requires, RT_LOW < RT_HIGH, is carried as a proof. A curve is a total function on the integers 0..65535, written as a
function of the 16-bit index (R7, R50); DIV_FINE and DM_FINE are total functions of the signed 16-bit range, written as functions of
its bit pattern (R8). -/
structure Params where
  /-- PITCH_CURVE (R7). -/
  pitchCurve : Code → Int
  /-- PITCH_CENTER. -/
  pitchCenter : Int
  /-- K_FINE_PITCH, not negative (92_eei_decisions.md, table of OPEN parameters). -/
  kFinePitch : Nat
  /-- K_CV_PITCH, not negative. -/
  kCvPitch : Nat
  /-- DIVIDE_CURVE. -/
  divideCurve : Code → Int
  /-- DIV_FINE, fine to DIV's correction. -/
  divFine : Code → Int
  /-- DIVMUL_CURVE; it may equal `divideCurve`. -/
  divmulCurve : Code → Int
  /-- DM_FINE, fine to DIVMUL's correction. -/
  dmFine : Code → Int
  /-- LINEAR_CURVE, the ONE curve of PHASE and LEVEL (R52), with values in [0, 65535] (R6). -/
  linearCurve : Code → Code
  /-- LEVEL_OFFSET, a signed integer. -/
  levelOffset : Int
  /-- RT_LOW, the arm threshold, an i16. -/
  rtLow : Code
  /-- RT_HIGH, the fire threshold, an i16. -/
  rtHigh : Code
  /-- RT_LOW < RT_HIGH is required (R6, R140). -/
  rtOrdered : rtLow.toInt < rtHigh.toInt
  /-- RT_DISARM_ON_FIRE (R142). -/
  rtDisarmOnFire : Bool
  /-- TICK_RESTART, a u32. -/
  tickRestart : Word
  /-- SHAPE_BASE_CLASSIC. -/
  shapeBaseClassic : Nat
  /-- SHAPE_BASE_RANDOM. -/
  shapeBaseRandom : Nat
  /-- SHAPE_TRAPEZOID. -/
  shapeTrapezoid : Nat
  /-- SHAPE_SQUARE. -/
  shapeSquare : Nat
  /-- What SHAPESEL leaves in RES0 for a shape code that needs more than 32 bits: a free value, for the spec states none (log
  entry 10). -/
  wideShapeCode : Nat → Word

/-- The named property "monotone" of R7, whose direction the source does not give. No meaning assumes it. -/
def MonotoneCurve (f : Code → Int) : Prop :=
  (∀ x y : Code, x.toNat ≤ y.toNat → f x ≤ f y) ∨ (∀ x y : Code, x.toNat ≤ y.toNat → f y ≤ f x)

/-- The named property "exactly linear" of R7 and R137: an affine function of the index, with OPEN coefficients. No meaning assumes
it. -/
def Params.LinearAffine (p : Params) : Prop :=
  ∃ slope offset : Int, ∀ x : Code, ((p.linearCurve x).toNat : Int) = slope * (x.toNat : Int) + offset

namespace Config

/-! ### The hardware's OPEN parameters: opaque, so that nothing can be proved of a value (R6, R51) -/

opaque pitchCurve : Code → Int
opaque pitchCenter : Int
opaque kFinePitch : Nat
opaque kCvPitch : Nat
opaque divideCurve : Code → Int
opaque divFine : Code → Int
opaque divmulCurve : Code → Int
opaque dmFine : Code → Int
opaque linearCurve : Code → Code
opaque levelOffset : Int
opaque tickRestart : Word
opaque shapeBaseClassic : Nat
opaque shapeBaseRandom : Nat
opaque shapeTrapezoid : Nat
opaque shapeSquare : Nat
opaque wideShapeCode : Nat → Word

/-- The two reset thresholds as the implementation gives them, (RT_LOW, RT_HIGH). -/
opaque rtThresholds : Code × Code

/-- RT_LOW. R6 requires RT_LOW < RT_HIGH; a pair that is not ordered is no block of this spec and stands for the pair (-1, 0) here, so
that the thresholds range over the ordered pairs, all of them and no others (log entry 6). -/
def rtLow : Code := if rtThresholds.1.toInt < rtThresholds.2.toInt then rtThresholds.1 else 0xFFFF#16

/-- RT_HIGH; see `rtLow`. -/
def rtHigh : Code := if rtThresholds.1.toInt < rtThresholds.2.toInt then rtThresholds.2 else 0x0000#16

/-- The hardware's thresholds are ordered (R6, R140). -/
theorem rtLow_lt_rtHigh : rtLow.toInt < rtHigh.toInt := by
  unfold rtLow rtHigh
  split
  · assumption
  · decide

/-- The parameters of this hardware: RT_DISARM_ON_FIRE is true (R6, R142, decision D11), every OPEN parameter is opaque. -/
def hardware : Params where
  pitchCurve := pitchCurve
  pitchCenter := pitchCenter
  kFinePitch := kFinePitch
  kCvPitch := kCvPitch
  divideCurve := divideCurve
  divFine := divFine
  divmulCurve := divmulCurve
  dmFine := dmFine
  linearCurve := linearCurve
  levelOffset := levelOffset
  rtLow := rtLow
  rtHigh := rtHigh
  rtOrdered := rtLow_lt_rtHigh
  rtDisarmOnFire := true
  tickRestart := tickRestart
  shapeBaseClassic := shapeBaseClassic
  shapeBaseRandom := shapeBaseRandom
  shapeTrapezoid := shapeTrapezoid
  shapeSquare := shapeSquare
  wideShapeCode := wideShapeCode

end Config

end Sys2Proof
end

