-- ==== Sys2Proof/Machine/Operands.lean ====
section
/-! DEFINITION. How a command reads an operand field as an integer and narrows an exact integer to a register (R10, R11, R72). All
arithmetic of the meanings is on unbounded integers between the two. -/

namespace Sys2Proof.Machine

/-! ### Reading a field (R10) -/

/-- `zext`: the pattern as an unsigned number. -/
def zext {n : Nat} (v : BitVec n) : Int := (v.toNat : Int)

/-- `sext`: the pattern as a two's-complement number. -/
def sext {n : Nat} (v : BitVec n) : Int := v.toInt

/-! ### Arithmetic (R11) -/

/-- `tdiv(a, b)`: division truncated toward zero. -/
def tdiv (a b : Int) : Int := Int.tdiv a b

/-- `clamp(v, lo, hi) = min(max(v, lo), hi)`. -/
def clamp (v lo hi : Int) : Int := min (max v lo) hi

/-- `abs(v) = |v|`. -/
def absInt (v : Int) : Int := (v.natAbs : Int)

/-! ### Narrowing (R10) -/

/-- `wrap32(v)` and `uwrap32(v)`: the 32-bit pattern congruent to v modulo 2^32. Read as two's complement it is the one, read as
unsigned the other. -/
def toWord (v : Int) : Word := BitVec.ofInt 32 v

/-- `wrap16(v)` and `uwrap16(v)`, as the 16-bit pattern. -/
def toCode (v : Int) : Code := BitVec.ofInt 16 v

/-- `sext32` of a 16-bit pattern. -/
def sextWord (v : Code) : Word := toWord (sext v)

/-- `zext32` of a 16-bit pattern. -/
def zextWord (v : Code) : Word := toWord (zext v)

/-- The curve index of an integer: clamped into [0, 65535], as every caller of `Curve` does before the read (R50). -/
def curveIndex (v : Int) : Code := toCode (clamp v 0 Config.fullScale)

end Sys2Proof.Machine
end

