-- ==== Sys2Proof/Syntax.lean ====
section
/-! DEFINITION. What the host presents to the block: the raw command bundle of R70, the 26 commands of R74 with the operand fields each
reads (R72, R75), and the host's moves (R275). -/

namespace Sys2Proof

/-- A command bundle: four fields, presented together (R70). -/
structure Bundle where
  /-- CMD, the command word (R71). -/
  cmd : Byte
  /-- A (OPA). -/
  a : Code
  /-- B (OPB). -/
  b : Code
  /-- C (OPC). -/
  c : Word
  deriving DecidableEq, Repr

/-- The commands, in the order of R74, one constructor per row of spec/opcode_table.json. A constructor carries exactly the fields its
command reads (R72); a field a command ignores has no place here, so that it cannot have an effect. -/
inductive Instr where
  /-- PITCH (R101). -/
  | pitch (coarse fine : Code) (cv : Word)
  /-- DIV (R111). -/
  | div (pot fine : Code) (cv : Word)
  /-- DIVMUL (R121). -/
  | divmul (pot fine : Code) (cv : Word)
  /-- PHASE (R131). -/
  | phase (pot fine : Code) (cv : Word)
  /-- LEVEL (R136). -/
  | level (pot fine : Code) (cv : Word)
  /-- RTSTEP (R141). -/
  | rtstep (ch : Channel) (signal : Code)
  /-- RTDISARM (R150). -/
  | rtdisarm (ch : Channel)
  /-- RTCOUNT (R152). -/
  | rtcount (ch : Channel)
  /-- RTRD (R154). -/
  | rtrd (ch : Channel)
  /-- RTRDT (R155). -/
  | rtrdt (ch : Channel)
  /-- DMDEC (R170). -/
  | dmdec (v : Code)
  /-- QDIV (R174); `ch` is the slave index. -/
  | qdiv (ch : Channel) (levelPot : Code)
  /-- PDIV (R177). -/
  | pdiv (phasePot : Code)
  /-- NEARFS (R180). -/
  | nearfs (coarse : Code)
  /-- QPHASE (R183); `ch` is the slave index. -/
  | qphase (ch : Channel)
  /-- SYNCN (R186). -/
  | syncn (cv : Word)
  /-- PGATE (R190). -/
  | pgate (coarse last : Code) (synced : Bool)
  /-- SHAPESEL (R194). -/
  | shapesel (selector : Code) (offset : Byte) (bank quad : Bool)
  /-- MIXCLR (R210). -/
  | mixclr
  /-- MIXP (R212). -/
  | mixp (ch : Channel) (level sine shape : Code)
  /-- MIXQ (R215). -/
  | mixq (ch : Channel) (level sine shape : Code)
  /-- MIXRD (R220). -/
  | mixrd
  /-- MIXRDG (R221). -/
  | mixrdg
  /-- RDSTAT (R240). -/
  | rdstat
  /-- CLRSTAT (R241). -/
  | clrstat
  /-- NOP (R242); IDLE is another name of it (R79). -/
  | nop
  deriving DecidableEq, Repr

/-- A move of the host that changes the block (R275): to issue one command, or to assert the reset input between commands (R292). Its
reads of registers change nothing (R57) and are no event. -/
inductive HostEvent where
  /-- Issue one command bundle (R275, first row). -/
  | issue (b : Bundle)
  /-- Assert the reset input (R275, last row; R291). -/
  | reset
  deriving DecidableEq, Repr

end Sys2Proof
end

