-- ==== Sys2Proof/WellFormed.lean ====
section
/-! DEFINITION. When a command bundle is one of the 26 commands: its command byte lies in none of the four reserved ranges (R74, R76,
95_test_vectors.md section 2.5). No operand value makes a command illegal (R72), and a term of `Instr` needs no check of its own: the types
of its fields hold exactly the values the encoding admits. -/

namespace Sys2Proof

/-- Reserved bytes of the MAP unit: op 0101 to 1111 (R74). -/
def reservedMap (cmd : Byte) : Bool := 0x14 ≤ cmd.toNat && cmd.toNat ≤ 0x3F

/-- Reserved bytes of the RT unit: op 0101 to 1111 (R74). -/
def reservedRt (cmd : Byte) : Bool := 0x54 ≤ cmd.toNat && cmd.toNat ≤ 0x7F

/-- Reserved bytes of the AUX unit: op 1000 to 1111 (R74). -/
def reservedAux (cmd : Byte) : Bool := 0xA0 ≤ cmd.toNat && cmd.toNat ≤ 0xBF

/-- Reserved bytes of the MIX/SYS unit: op 0101 to 1100 (R74). -/
def reservedMixSys (cmd : Byte) : Bool := 0xD4 ≤ cmd.toNat && cmd.toNat ≤ 0xF3

/-- A command byte whose (unit, op) pair R74 marks reserved (R76). -/
def reservedByte (cmd : Byte) : Bool :=
  reservedMap cmd || reservedRt cmd || reservedAux cmd || reservedMixSys cmd

/-- A bundle is well formed when its command byte is not reserved; every pattern of A, B and C is accepted (R72). -/
def Bundle.wellFormed (b : Bundle) : Bool := !reservedByte b.cmd

/-- The bits of a bundle a command reads, as a mask (R72, R75): CMD[7:2] always, CMD[1:0] where ch is a channel or a slave index, and the
operand bits R72 names. A bit outside the mask has no effect. -/
def readMask : Instr → Bundle
  | .pitch _ _ _ => { cmd := 0xFC, a := 0xFFFF, b := 0xFFFF, c := 0xFFFFFFFF }
  | .div _ _ _ => { cmd := 0xFC, a := 0xFFFF, b := 0xFFFF, c := 0xFFFFFFFF }
  | .divmul _ _ _ => { cmd := 0xFC, a := 0xFFFF, b := 0xFFFF, c := 0xFFFFFFFF }
  | .phase _ _ _ => { cmd := 0xFC, a := 0xFFFF, b := 0xFFFF, c := 0xFFFFFFFF }
  | .level _ _ _ => { cmd := 0xFC, a := 0xFFFF, b := 0xFFFF, c := 0xFFFFFFFF }
  | .rtstep _ _ => { cmd := 0xFF, a := 0, b := 0xFFFF, c := 0 }
  | .rtdisarm _ => { cmd := 0xFF, a := 0, b := 0, c := 0 }
  | .rtcount _ => { cmd := 0xFF, a := 0, b := 0, c := 0 }
  | .rtrd _ => { cmd := 0xFF, a := 0, b := 0, c := 0 }
  | .rtrdt _ => { cmd := 0xFF, a := 0, b := 0, c := 0 }
  | .dmdec _ => { cmd := 0xFC, a := 0, b := 0xFFFF, c := 0 }
  | .qdiv _ _ => { cmd := 0xFF, a := 0xFFFF, b := 0, c := 0 }
  | .pdiv _ => { cmd := 0xFC, a := 0xFFFF, b := 0, c := 0 }
  | .nearfs _ => { cmd := 0xFC, a := 0xFFFF, b := 0, c := 0 }
  | .qphase _ => { cmd := 0xFF, a := 0, b := 0, c := 0 }
  | .syncn _ => { cmd := 0xFC, a := 0, b := 0, c := 0xFFFFFFFF }
  | .pgate _ _ _ => { cmd := 0xFC, a := 0xFFFF, b := 0xFFFF, c := 0x1 }
  | .shapesel _ _ _ _ => { cmd := 0xFC, a := 0xFFFF, b := 0x00FF, c := 0x3 }
  | .mixclr => { cmd := 0xFC, a := 0, b := 0, c := 0 }
  | .mixp _ _ _ _ => { cmd := 0xFF, a := 0xFFFF, b := 0xFFFF, c := 0x0000FFFF }
  | .mixq _ _ _ _ => { cmd := 0xFF, a := 0xFFFF, b := 0xFFFF, c := 0x0000FFFF }
  | .mixrd => { cmd := 0xFC, a := 0, b := 0, c := 0 }
  | .mixrdg => { cmd := 0xFC, a := 0, b := 0, c := 0 }
  | .rdstat => { cmd := 0xFC, a := 0, b := 0, c := 0 }
  | .clrstat => { cmd := 0xFC, a := 0, b := 0, c := 0 }
  | .nop => { cmd := 0xFC, a := 0, b := 0, c := 0 }

/-- The bundle with only the bits of a mask. -/
def Bundle.masked (b m : Bundle) : Bundle := { cmd := b.cmd &&& m.cmd, a := b.a &&& m.a, b := b.b &&& m.b, c := b.c &&& m.c }

end Sys2Proof
end

