-- ==== Sys2Proof/Decode.lean ====
section
/-! DEFINITION. The decoder of R74, total on every bundle (R77) and rejecting a reserved one by name, the encoder beside it, and the 72-bit word
of R73 that numbers a bundle's bits. -/

namespace Sys2Proof

/-! ### Fields of the command word (R71) -/

/-- CMD[7:6], the unit. -/
def Bundle.unit (b : Bundle) : BitVec 2 := b.cmd.extractLsb' 6 2

/-- CMD[5:2], the operation within the unit. -/
def Bundle.op (b : Bundle) : BitVec 4 := b.cmd.extractLsb' 2 4

/-- CMD[1:0], the channel. -/
def Bundle.channel (b : Bundle) : Channel := (b.cmd.extractLsb' 0 2).toFin

/-! ### The decoder -/

/-- Why a bundle is no command. -/
inductive DecodeError where
  /-- The (unit, op) pair is reserved (R76). Raised by `decode`; the machine then executes `raise Illegal()` (R260). -/
  | reserved (unit : BitVec 2) (op : BitVec 4)
  deriving DecidableEq, Repr

/-- Unit 00, MAP (R74). -/
def decodeMap (b : Bundle) : Option Instr :=
  match b.op.toNat with
  | 0 => some (.pitch b.a b.b b.c)
  | 1 => some (.div b.a b.b b.c)
  | 2 => some (.divmul b.a b.b b.c)
  | 3 => some (.phase b.a b.b b.c)
  | 4 => some (.level b.a b.b b.c)
  | _ => none

/-- Unit 01, RT (R74). -/
def decodeRt (b : Bundle) : Option Instr :=
  match b.op.toNat with
  | 0 => some (.rtstep b.channel b.b)
  | 1 => some (.rtdisarm b.channel)
  | 2 => some (.rtcount b.channel)
  | 3 => some (.rtrd b.channel)
  | 4 => some (.rtrdt b.channel)
  | _ => none

/-- Unit 10, AUX (R74). -/
def decodeAux (b : Bundle) : Option Instr :=
  match b.op.toNat with
  | 0 => some (.dmdec b.b)
  | 1 => some (.qdiv b.channel b.a)
  | 2 => some (.pdiv b.a)
  | 3 => some (.nearfs b.a)
  | 4 => some (.qphase b.channel)
  | 5 => some (.syncn b.c)
  | 6 => some (.pgate b.a b.b (b.c.getLsbD 0))
  | 7 => some (.shapesel b.a (b.b.extractLsb' 0 8) (b.c.getLsbD 0) (b.c.getLsbD 1))
  | _ => none

/-- Unit 11, MIX and SYS (R74). -/
def decodeMixSys (b : Bundle) : Option Instr :=
  match b.op.toNat with
  | 0 => some .mixclr
  | 1 => some (.mixp b.channel b.a b.b (b.c.extractLsb' 0 16))
  | 2 => some (.mixq b.channel b.a b.b (b.c.extractLsb' 0 16))
  | 3 => some .mixrd
  | 4 => some .mixrdg
  | 13 => some .rdstat
  | 14 => some .clrstat
  | 15 => some .nop
  | _ => none

/-- The row of R74 a bundle belongs to, or none where the row is marked reserved. -/
def decodeRow (b : Bundle) : Option Instr :=
  match b.unit.toNat with
  | 0 => decodeMap b
  | 1 => decodeRt b
  | 2 => decodeAux b
  | _ => decodeMixSys b

/-- The decoder (R77): one command, or the reserved pair by name. -/
def decode (b : Bundle) : Except DecodeError Instr :=
  match decodeRow b with
  | some i => .ok i
  | none => .error (.reserved b.unit b.op)

/-! ### The encoder -/

/-- The command byte `unit·64 + op·4 + ch` (R71). -/
def commandByte (unit op : Nat) (ch : Channel) : Byte := BitVec.ofNat 8 (unit * 64 + op * 4 + ch.val)

/-- A bundle of command byte and operands. -/
def bundleOf (unit op : Nat) (ch : Channel) (a b : Code) (c : Word) : Bundle :=
  { cmd := commandByte unit op ch, a := a, b := b, c := c }

/-- C with the one flag PGATE reads, C[0] (R72). -/
def syncedField (synced : Bool) : Word := 0#31 ++ BitVec.ofBool synced

/-- C with the two flags SHAPESEL reads, C[0] = bank and C[1] = quad (R72). -/
def shapeField (bank quad : Bool) : Word := 0#30 ++ BitVec.ofBool quad ++ BitVec.ofBool bank

/-- The bundle of a command (R71, R72, R74). A field the command ignores is zero, as an omitted operand is (R78). -/
def encode : Instr → Bundle
  | .pitch coarse fine cv => bundleOf 0 0 0 coarse fine cv
  | .div pot fine cv => bundleOf 0 1 0 pot fine cv
  | .divmul pot fine cv => bundleOf 0 2 0 pot fine cv
  | .phase pot fine cv => bundleOf 0 3 0 pot fine cv
  | .level pot fine cv => bundleOf 0 4 0 pot fine cv
  | .rtstep ch signal => bundleOf 1 0 ch 0 signal 0
  | .rtdisarm ch => bundleOf 1 1 ch 0 0 0
  | .rtcount ch => bundleOf 1 2 ch 0 0 0
  | .rtrd ch => bundleOf 1 3 ch 0 0 0
  | .rtrdt ch => bundleOf 1 4 ch 0 0 0
  | .dmdec v => bundleOf 2 0 0 0 v 0
  | .qdiv ch levelPot => bundleOf 2 1 ch levelPot 0 0
  | .pdiv phasePot => bundleOf 2 2 0 phasePot 0 0
  | .nearfs coarse => bundleOf 2 3 0 coarse 0 0
  | .qphase ch => bundleOf 2 4 ch 0 0 0
  | .syncn cv => bundleOf 2 5 0 0 0 cv
  | .pgate coarse last synced => bundleOf 2 6 0 coarse last (syncedField synced)
  | .shapesel selector offset bank quad => bundleOf 2 7 0 selector (offset.setWidth 16) (shapeField bank quad)
  | .mixclr => bundleOf 3 0 0 0 0 0
  | .mixp ch level sine shape => bundleOf 3 1 ch level sine (shape.setWidth 32)
  | .mixq ch level sine shape => bundleOf 3 2 ch level sine (shape.setWidth 32)
  | .mixrd => bundleOf 3 3 0 0 0 0
  | .mixrdg => bundleOf 3 4 0 0 0 0
  | .rdstat => bundleOf 3 13 0 0 0 0
  | .clrstat => bundleOf 3 14 0 0 0 0
  | .nop => bundleOf 3 15 0 0 0 0

/-! ### The 72-bit word of a bundle (R73) -/

/-- `W = {C, B, A, CMD}` (R73). -/
def Bundle.toWord (b : Bundle) : BitVec 72 := b.c ++ b.b ++ b.a ++ b.cmd

/-- The bundle of a 72-bit word: W[7:0] = CMD, W[23:8] = A, W[39:24] = B, W[71:40] = C (R73). -/
def Bundle.ofWord (w : BitVec 72) : Bundle :=
  { cmd := w.extractLsb' 0 8, a := w.extractLsb' 8 16, b := w.extractLsb' 24 16, c := w.extractLsb' 40 32 }

/-- The bundle whose word has the low `nbits` bits of `w` and zeros above (the numbering of spec/opcode_table.json). -/
def bundleOfTableWord (nbits w : Nat) : Bundle := Bundle.ofWord (BitVec.ofNat 72 (w % 2 ^ nbits))

/-- The instruction the decoder reads from an opcode-table word, or none where it refuses. -/
def decodeTableWord (nbits w : Nat) : Option Instr := (decode (bundleOfTableWord nbits w)).toOption

end Sys2Proof
end

