-- ==== Sys2Proof/Machine/State.lean ====
section
/-! DEFINITION. The whole state of the block (R34), the write strobes of R29 and R275, and the host's pending moves, as plain data; the value of every
field after reset (R290); the reasons a step can stop. -/

namespace Sys2Proof.Machine

/-- One value per channel 0..3 (R54). Read and written through `PerChannel.get` and `PerChannel.set` of Machine/Ops.lean. -/
structure PerChannel (α : Type) where
  /-- Channel 0. -/
  c0 : α
  /-- Channel 1. -/
  c1 : α
  /-- Channel 2. -/
  c2 : α
  /-- Channel 3. -/
  c3 : α
  deriving DecidableEq, Repr

/-- One channel's reset-tracker registers RT[ch] (R24). -/
structure Tracker where
  /-- `reset_trigger_armed`: the channel has been below RT_LOW since its last fire. -/
  armed : Bool
  /-- `reset_triggered`: the last RTSTEP on this channel fired. -/
  triggered : Bool
  /-- `reset_subsample`, i32: the offset of the last confirmed edge, in 1/32 tick (R25). -/
  subsample : Word
  /-- `previous_reset_raw`, i16: the signal of the last RTSTEP on this channel. -/
  prev : Code
  /-- `last_reset_ticks`, u32: the inter-trigger tick counter (R27). -/
  ticks : Word
  deriving DecidableEq, Repr

/-- The mixer accumulators, shared by all channels (R28). -/
structure Mixer where
  /-- MIX.SS, i32: running sum of reference-sine samples. -/
  ss : Word
  /-- MIX.SA, i32: running sum of selected-shape samples. -/
  sa : Word
  /-- MIX.G, u32: running sum of channel levels. -/
  g : Word
  deriving DecidableEq, Repr

/-- The status register STAT (R23): its two sticky bits. Bits 31:2 are hardwired 0 and hold nothing; `Stat.word` of Machine/Flags.lean is
the 32-bit register as it reads. -/
structure Stat where
  /-- STAT bit 0: a command with a reserved encoding was issued. -/
  ill : Bool
  /-- STAT bit 1: an RTSTEP fire hit the zero-divisor fallback. -/
  dz : Bool
  deriving DecidableEq, Repr

/-- The state of the block. Every field but the last is the spec's; `inbox` is the model's own: the moves the host has still to make,
first move first (R21, R275; log entry 1). -/
structure State where
  /-- RES0 (R22). -/
  res0 : Word
  /-- RES1 (R22). -/
  res1 : Word
  /-- STAT (R23). -/
  stat : Stat
  /-- RT[0..3] (R24). -/
  rt : PerChannel Tracker
  /-- MIX (R28). -/
  mix : Mixer
  /-- DAC_SINE[0..3], i32 (R29). -/
  dacSine : PerChannel Word
  /-- DAC_ASGN[0..3], i32 (R29). -/
  dacAsgn : PerChannel Word
  /-- WS_SINE[0..3]: the last command accepted wrote DAC_SINE[ch] (R29; log entry 4). -/
  wsSine : PerChannel Bool
  /-- WS_ASGN[0..3]: the last command accepted wrote DAC_ASGN[ch] (R29; log entry 4). -/
  wsAsgn : PerChannel Bool
  /-- The host's moves to come (R275). -/
  inbox : List HostEvent
  deriving DecidableEq, Repr

/-- The reasons a step stops with a fault. There is none: the block has no trap and no runtime error (R260 to R262, R265), and a
reserved command is a next state with STAT.ILL set (R260). Safe: the type being empty, no step can be proved to stop with a fault. -/
inductive Fault where
  deriving DecidableEq, Repr

/-- The reasons a step is refused. -/
inductive Refusal where
  /-- An instruction without a meaning in this model, by the opcode table's mnemonic. Raised by `exec` alone, and by no arm of it: every
  command has its meaning. Safe: the model stops. -/
  | notModelled (mnemonic : String)
  deriving DecidableEq, Repr

/-- What a step answers. -/
abbrev Result := Host.Outcome State Fault Refusal

/-- A tracker after reset (R24, R290). -/
def resetTracker : Tracker := { armed := false, triggered := false, subsample := 0#32, prev := 0#16, ticks := 0#32 }

/-- The block right after reset (R290): every register 0, no write strobe. The host has issued nothing yet (log entry 1). -/
def State.reset : State where
  res0 := 0#32
  res1 := 0#32
  stat := { ill := false, dz := false }
  rt := { c0 := resetTracker, c1 := resetTracker, c2 := resetTracker, c3 := resetTracker }
  mix := { ss := 0#32, sa := 0#32, g := 0#32 }
  dacSine := { c0 := 0#32, c1 := 0#32, c2 := 0#32, c3 := 0#32 }
  dacAsgn := { c0 := 0#32, c1 := 0#32, c2 := 0#32, c3 := 0#32 }
  wsSine := { c0 := false, c1 := false, c2 := false, c3 := false }
  wsAsgn := { c0 := false, c1 := false, c2 := false, c3 := false }
  inbox := []

end Sys2Proof.Machine
end

