-- ==== Sys2Proof/Machine/Ops.lean ====
section
/-! DEFINITION. The named operations over the registers; every meaning writes state through them. `raiseIllegal` is the one exception-like event of the
block, taken in one place (R260): nothing is saved, no mode changes and control goes nowhere (R265), and there is no return (R266). -/

namespace Sys2Proof.Machine

/-! ### Channel-indexed registers (R54) -/

/-- The value of a channel. -/
def PerChannel.get {α : Type} (v : PerChannel α) (ch : Channel) : α :=
  match ch with
  | 0 => v.c0
  | 1 => v.c1
  | 2 => v.c2
  | 3 => v.c3

/-- The values with one channel's replaced. -/
def PerChannel.set {α : Type} (v : PerChannel α) (ch : Channel) (x : α) : PerChannel α :=
  match ch with
  | 0 => { v with c0 := x }
  | 1 => { v with c1 := x }
  | 2 => { v with c2 := x }
  | 3 => { v with c3 := x }

/-- The same value on every channel. -/
def PerChannel.all {α : Type} (x : α) : PerChannel α := { c0 := x, c1 := x, c2 := x, c3 := x }

/-! ### Register writes -/

/-- `RES0 <- v` (R12, R22). -/
def State.setRes0 (s : State) (v : Word) : State := { s with res0 := v }

/-- `RES1 <- v` (R12, R22). -/
def State.setRes1 (s : State) (v : Word) : State := { s with res1 := v }

/-- `RT[ch] <- r` (R24). -/
def State.setTracker (s : State) (ch : Channel) (r : Tracker) : State := { s with rt := s.rt.set ch r }

/-- `MIX <- m` (R28). -/
def State.setMixer (s : State) (m : Mixer) : State := { s with mix := m }

/-- `STAT <- st` (R23). -/
def State.setStat (s : State) (st : Stat) : State := { s with stat := st }

/-- `DAC_SINE[ch] <- sine; DAC_ASGN[ch] <- asgn`, with both write strobes of the channel (R12, R29). -/
def State.writeDac (s : State) (ch : Channel) (sine asgn : Word) : State :=
  { s with
    dacSine := s.dacSine.set ch sine
    dacAsgn := s.dacAsgn.set ch asgn
    wsSine := s.wsSine.set ch true
    wsAsgn := s.wsAsgn.set ch true }

/-! ### Status events -/

/-- `raise Illegal()`: STAT.ILL is set and nothing else changes (R260). -/
def State.raiseIllegal (s : State) : State := s.setStat { s.stat with ill := true }

/-- STAT.DZ is set (R143, R261). -/
def State.raiseZeroDivisor (s : State) : State := s.setStat { s.stat with dz := true }

/-- `STAT <- 0` (R241). -/
def State.clearStat (s : State) : State := s.setStat { ill := false, dz := false }

/-! ### The host's moves (R275) -/

/-- The host's next move is `e`; the moves it had still to make follow it. -/
def State.issue (s : State) (e : HostEvent) : State := { s with inbox := e :: s.inbox }

/-- A command is accepted, with `rest` the moves that follow it: the one-command write strobes of the command before it end (R29; log
entry 4). -/
def State.accept (s : State) (rest : List HostEvent) : State :=
  { s with wsSine := PerChannel.all false, wsAsgn := PerChannel.all false, inbox := rest }

/-- The effect of a command byte the decoder rejects (R76, R260); the error's fields are recorded nowhere (R260). -/
def illegalCommand (_ : DecodeError) (s : State) : Result := .next s.raiseIllegal

/-- The reset input (R290 to R292): every register to its reset value, whatever it held; the host's later moves remain. -/
def hostReset (rest : List HostEvent) : Result := .next { State.reset with inbox := rest }

/-- The host makes no move: all state is kept (R276). -/
def idle (s : State) : Result := .next s

end Sys2Proof.Machine
end

