-- ==== Sys2Proof/Machine/Mapper.lean ====
section
/-! DEFINITION. The MAP unit: PITCH, DIV, DIVMUL, PHASE and LEVEL (40_control_mapper.md). Each is a function of its operands and the parameters
alone and writes RES0 only (R100). -/

namespace Sys2Proof.Machine

/-- PITCH's exact sum, before the narrowing (R101). -/
def pitchSum (p : Params) (coarse fine : Code) (cv : Word) : Int :=
  (p.pitchCurve coarse - p.pitchCenter)
    + tdiv (sext fine * (p.kFinePitch : Int)) 65536
    + tdiv (sext cv * (p.kCvPitch : Int)) 32768

/-- PITCH's result: the sum wrapped to 16 bits and sign-extended, with no clamp (R101, R102). -/
def pitchValue (p : Params) (coarse fine : Code) (cv : Word) : Word := sextWord (toCode (pitchSum p coarse fine cv))

/-- DIV's result, in [1, 64] (R111). -/
def divValue (p : Params) (pot fine : Code) (cv : Word) : Word :=
  toWord (clamp (p.divideCurve (curveIndex (zext pot + sext cv)) + p.divFine fine) 1 64)

/-- DIVMUL's tie-break table: the adjusted value `v0` and the correction `f` give the forced value, or `v0` itself (R121, R122). -/
def tieBreak (v0 f : Int) : Int :=
  if v0 = 0 ∧ f > 1 then -2
  else if v0 = -1 ∧ f > 1 then -3
  else if v0 = 0 ∧ f = 1 then -2
  else if v0 = 0 ∧ f < -1 then 2
  else v0

/-- DIVMUL's final clamp: [1, 64] for a value that is not negative, else [-64, -2] (R123). -/
def divmulClamp (v1 : Int) : Int := if v1 ≥ 0 then clamp v1 1 64 else clamp v1 (-64) (-2)

/-- DIVMUL's result (R121). -/
def divmulValue (p : Params) (pot fine : Code) (cv : Word) : Word :=
  let f := p.dmFine fine
  let v0 := p.divmulCurve (curveIndex (zext pot + sext cv)) + f
  toWord (divmulClamp (tieBreak v0 f))

/-- PHASE's curve index: the pot inverted from 65536, plus cv, plus fine/8, clamped (R131). -/
def phaseIndex (pot fine : Code) (cv : Word) : Code := curveIndex ((65536 - zext pot) + sext cv + tdiv (sext fine) 8)

/-- PHASE's result (R131). -/
def phaseValue (p : Params) (pot fine : Code) (cv : Word) : Word := zextWord (p.linearCurve (phaseIndex pot fine cv))

/-- LEVEL's curve index: pot plus cv plus LEVEL_OFFSET plus fine/4, clamped (R136). -/
def levelIndex (p : Params) (pot fine : Code) (cv : Word) : Code :=
  curveIndex (zext pot + sext cv + p.levelOffset + tdiv (sext fine) 4)

/-- LEVEL's result, from the curve PHASE reads (R52, R136). -/
def levelValue (p : Params) (pot fine : Code) (cv : Word) : Word := zextWord (p.linearCurve (levelIndex p pot fine cv))

/-- PITCH (R101). -/
def execPitch (coarse fine : Code) (cv : Word) (s : State) : Result :=
  .next (s.setRes0 (pitchValue Config.hardware coarse fine cv))

/-- DIV (R111). -/
def execDiv (pot fine : Code) (cv : Word) (s : State) : Result :=
  .next (s.setRes0 (divValue Config.hardware pot fine cv))

/-- DIVMUL (R121). -/
def execDivmul (pot fine : Code) (cv : Word) (s : State) : Result :=
  .next (s.setRes0 (divmulValue Config.hardware pot fine cv))

/-- PHASE (R131). -/
def execPhase (pot fine : Code) (cv : Word) (s : State) : Result :=
  .next (s.setRes0 (phaseValue Config.hardware pot fine cv))

/-- LEVEL (R136). -/
def execLevel (pot fine : Code) (cv : Word) (s : State) : Result :=
  .next (s.setRes0 (levelValue Config.hardware pot fine cv))

end Sys2Proof.Machine
end

