-- ==== Sys2Proof/Machine/OutputMixer.lean ====
section
/-! DEFINITION. The MIX commands: MIXCLR, MIXP, MIXQ, MIXRD and MIXRDG (43_mixer.md). -/

namespace Sys2Proof.Machine

/-- The QUAD normaliser `Norm(S, G)` (R214); its divisor is at least 65535 (R217). -/
def quadNorm (sum gain : Word) : Word :=
  toWord (tdiv (sext sum * Config.mixScaleIn) (max (zext gain) Config.mixGainFloor) * Config.mixScaleOut)

/-- The accumulators after MIXP: this channel's own values (R212). -/
def passAccumulators (level sine shape : Code) : Mixer :=
  { ss := sextWord sine, sa := sextWord shape, g := zextWord level }

/-- The accumulators after MIXQ: this channel added, wrapping modulo 2^32 (R215, R219). -/
def addAccumulators (m : Mixer) (level sine shape : Code) : Mixer :=
  { ss := toWord (sext m.ss + sext sine), sa := toWord (sext m.sa + sext shape), g := toWord (zext m.g + zext level) }

/-- What MIXP and MIXQ share: new accumulators, and one output pair to the channel's DAC registers and the result registers (R212,
R215). -/
def mixOut (ch : Channel) (m : Mixer) (sine asgn : Word) (s : State) : State :=
  (((s.setMixer m).writeDac ch sine asgn).setRes0 sine).setRes1 asgn

/-- MIXCLR (R210). -/
def execMixclr (s : State) : Result := .next (s.setMixer { ss := 0#32, sa := 0#32, g := 0#32 })

/-- MIXP (R212). -/
def execMixp (ch : Channel) (level sine shape : Code) (s : State) : Result :=
  .next (mixOut ch (passAccumulators level sine shape) (sextWord sine) (sextWord shape) s)

/-- MIXQ (R215). -/
def execMixq (ch : Channel) (level sine shape : Code) (s : State) : Result :=
  let m := addAccumulators s.mix level sine shape
  .next (mixOut ch m (quadNorm m.ss m.g) (quadNorm m.sa m.g) s)

/-- MIXRD (R220). -/
def execMixrd (s : State) : Result := .next ((s.setRes0 s.mix.ss).setRes1 s.mix.sa)

/-- MIXRDG (R221). -/
def execMixrdg (s : State) : Result := .next ((s.setRes0 s.mix.g).setRes1 0#32)

end Sys2Proof.Machine
end

