-- ==== Sys2Proof/Machine/Quantiser.lean ====
section
/-! DEFINITION. The AUX unit: DMDEC, QDIV, PDIV, NEARFS, QPHASE, SYNCN, PGATE and SHAPESEL (42_mapper_aux.md). Each reads its operands alone and writes
RES0, and RES1 where its rule says so. -/

namespace Sys2Proof.Machine

/-- DMDEC's (multiplier, divider) of a DIVMUL code (R170). -/
def decodeCode (v : Int) : Int × Int :=
  if v > 1 then (1, v)
  else if v < -1 then (-v, 1)
  else (1, 1)

/-- The slave-divider term `tdiv(7·(65535 - p), 65536)` of QDIV and PDIV (R174, R177). -/
def slaveTerm (pot : Code) : Int := tdiv (Config.slaveDivSpan * (Config.fullScale - zext pot)) 65536

/-- QDIV's result (R174). -/
def qdivValue (ch : Channel) (levelPot : Code) : Word :=
  toWord (clamp (slaveTerm levelPot + ((ch.val : Int) + 1)) Config.slaveDivMin Config.slaveDivMax)

/-- PDIV's result (R177). -/
def pdivValue (phasePot : Code) : Word := toWord (clamp (slaveTerm phasePot) Config.slaveDivMin Config.slaveDivMax)

/-- NEARFS's result (R180). -/
def nearfsValue (coarse : Code) : Word := if Config.fullScale - zext coarse < Config.nearfsMargin then 1#32 else 0#32

/-- QPHASE's result, wrapped to 16 bits (R183). -/
def qphaseValue (ch : Channel) : Word := zextWord (toCode ((4 - (ch.val : Int)) * Config.quadPhaseStep))

/-- SYNCN's count `n` (R186). -/
def syncCount (cv : Int) : Int := tdiv (absInt cv * Config.syncScaleNum) Config.syncScaleDen + 1

/-- SYNCN's (multiplier, divider): positive CV multiplies, negative divides, zero does neither (R186). -/
def syncPair (cv : Int) : Int × Int :=
  if cv > 0 then (syncCount cv, 1)
  else if cv < 0 then (1, syncCount cv)
  else (1, 1)

/-- PGATE's `moved`: the knob is more than PITCH_HYST from the last applied value (R190). -/
def knobMoved (coarse last : Code) : Bool := decide (absInt (zext coarse - zext last) > Config.pitchHyst)

/-- PGATE's `apply` (R190). -/
def pitchApplies (coarse last : Code) (synced : Bool) : Bool := !synced || knobMoved coarse last

/-- PGATE's RES1: new_synced in bit 16, new_last in bits 15:0 (R190). -/
def gateWord (coarse last : Code) (synced : Bool) : Word :=
  0#15 ++ BitVec.ofBool (synced && !knobMoved coarse last) ++ (if pitchApplies coarse last synced then coarse else last)

/-- SHAPESEL's code before the QUAD substitution (R194). -/
def shapeCode (p : Params) (selector : Code) (offset : Byte) (bank : Bool) : Nat :=
  (if bank then p.shapeBaseRandom else p.shapeBaseClassic) + (selector.toNat + offset.toNat) % 4

/-- SHAPESEL's code: in QUAD mode a trapezoid becomes a square (R194). -/
def activeShape (p : Params) (selector : Code) (offset : Byte) (bank quad : Bool) : Nat :=
  let code := shapeCode p selector offset bank
  if quad && decide (code = p.shapeTrapezoid) then p.shapeSquare else code

/-- SHAPESEL's result: `zext32` of the code. A code that 32 bits cannot hold leaves a free value (log entry 10). -/
def shapeValue (p : Params) (selector : Code) (offset : Byte) (bank quad : Bool) : Word :=
  let code := activeShape p selector offset bank quad
  if code < 2 ^ 32 then toWord (code : Int) else p.wideShapeCode code

/-- DMDEC (R170). -/
def execDmdec (v : Code) (s : State) : Result :=
  .next ((s.setRes0 (toWord (decodeCode (sext v)).1)).setRes1 (toWord (decodeCode (sext v)).2))

/-- QDIV (R174). -/
def execQdiv (ch : Channel) (levelPot : Code) (s : State) : Result := .next (s.setRes0 (qdivValue ch levelPot))

/-- PDIV (R177). -/
def execPdiv (phasePot : Code) (s : State) : Result := .next (s.setRes0 (pdivValue phasePot))

/-- NEARFS (R180). -/
def execNearfs (coarse : Code) (s : State) : Result := .next (s.setRes0 (nearfsValue coarse))

/-- QPHASE (R183). -/
def execQphase (ch : Channel) (s : State) : Result := .next (s.setRes0 (qphaseValue ch))

/-- SYNCN (R186). -/
def execSyncn (cv : Word) (s : State) : Result :=
  .next ((s.setRes0 (toWord (syncPair (sext cv)).1)).setRes1 (toWord (syncPair (sext cv)).2))

/-- PGATE (R190). -/
def execPgate (coarse last : Code) (synced : Bool) (s : State) : Result :=
  .next ((s.setRes0 (if pitchApplies coarse last synced then 1#32 else 0#32)).setRes1 (gateWord coarse last synced))

/-- SHAPESEL (R194). -/
def execShapesel (selector : Code) (offset : Byte) (bank quad : Bool) (s : State) : Result :=
  .next (s.setRes0 (shapeValue Config.hardware selector offset bank quad))

end Sys2Proof.Machine
end

