-- ==== Sys2Proof/Machine/Flags.lean ====
section
/-! DEFINITION. The block's flag computations. It has no condition codes (R30); its flag-like state is STAT.ILL and STAT.DZ (R23) and, per channel,
RT[ch].armed and RT[ch].triggered, whose conditions are here (R141). -/

namespace Sys2Proof.Machine

/-- STAT as it reads: ILL in bit 0, DZ in bit 1, bits 31:2 hardwired 0 (R23). -/
def Stat.word (st : Stat) : Word := 0#30 ++ BitVec.ofBool st.dz ++ BitVec.ofBool st.ill

/-- RTSTEP's arm condition, strict (R141). -/
def arms (p : Params) (signal : Code) : Bool := decide (sext signal < sext p.rtLow)

/-- RTSTEP's fire condition: not arming, strictly above RT_HIGH, and armed (R141). -/
def fires (p : Params) (r : Tracker) (signal : Code) : Bool :=
  !arms p signal && decide (sext p.rtHigh < sext signal) && r.armed

/-- RT[ch].armed after an RTSTEP: set when arming, cleared by a fire when RT_DISARM_ON_FIRE is true, else held (R141, R142). -/
def armedAfter (p : Params) (r : Tracker) (signal : Code) : Bool :=
  if arms p signal then true
  else if fires p r signal && p.rtDisarmOnFire then false
  else r.armed

/-- The interpolation divisor of a fire is zero (R143): what sets STAT.DZ, on a fire only (R261). -/
def zeroDivisor (p : Params) (r : Tracker) (signal : Code) : Bool :=
  fires p r signal && decide (sext signal - sext r.prev = 0)

end Sys2Proof.Machine
end

