-- ==== Sys2Proof/Machine/ResetTracker.lean ====
section
/-! DEFINITION. The RT unit: RTSTEP, RTDISARM, RTCOUNT, RTRD and RTRDT (41_reset_tracker.md). A command reads and writes RT[ch] of its own channel
only, apart from STAT.DZ and the result registers (R157). -/

namespace Sys2Proof.Machine

/-- RT[ch].subsample after an RTSTEP: written on a fire only (R25), 0 when the divisor is zero (R143), else the truncated quotient of
the previous sample's distance to RT_HIGH, in 1/32 tick, and the rise (R141). -/
def subsampleAfter (p : Params) (r : Tracker) (signal : Code) : Word :=
  if fires p r signal then
    if zeroDivisor p r signal then 0#32
    else toWord (tdiv ((sext p.rtHigh - sext r.prev) * Config.subsampleScale) (sext signal - sext r.prev))
  else r.subsample

/-- RT[ch] after an RTSTEP with sample `signal` (R141, R144, R145). -/
def trackerStep (p : Params) (r : Tracker) (signal : Code) : Tracker :=
  { r with
    armed := armedAfter p r signal
    triggered := fires p r signal
    subsample := subsampleAfter p r signal
    prev := signal }

/-- RTSTEP's whole effect (R141). -/
def rtstep (p : Params) (ch : Channel) (signal : Code) (s : State) : State :=
  let r := s.rt.get ch
  let r' := trackerStep p r signal
  let stat := { s.stat with dz := s.stat.dz || zeroDivisor p r signal }
  (((s.setStat stat).setTracker ch r').setRes0 (if r'.triggered then 1#32 else 0#32)).setRes1 r'.subsample

/-- RT[ch].ticks after an RTCOUNT (R152). -/
def ticksAfter (p : Params) (r : Tracker) : Word :=
  if r.triggered then p.tickRestart else toWord (zext r.ticks + 1)

/-- RTCOUNT's whole effect: the count before the update and the triggered bit are the results (R152). -/
def rtcount (p : Params) (ch : Channel) (s : State) : State :=
  let r := s.rt.get ch
  ((s.setTracker ch { r with ticks := ticksAfter p r }).setRes0 r.ticks).setRes1 (if r.triggered then 1#32 else 0#32)

/-- RTRD's RES1: triggered in bit 17, armed in bit 16, prev in bits 15:0 (R154). -/
def trackerWord (r : Tracker) : Word := 0#14 ++ BitVec.ofBool r.triggered ++ BitVec.ofBool r.armed ++ r.prev

/-- RTSTEP (R141). -/
def execRtstep (ch : Channel) (signal : Code) (s : State) : Result := .next (rtstep Config.hardware ch signal s)

/-- RTDISARM (R150). -/
def execRtdisarm (ch : Channel) (s : State) : Result := .next (s.setTracker ch { s.rt.get ch with armed := false })

/-- RTCOUNT (R152). -/
def execRtcount (ch : Channel) (s : State) : Result := .next (rtcount Config.hardware ch s)

/-- RTRD (R154). -/
def execRtrd (ch : Channel) (s : State) : Result :=
  .next ((s.setRes0 (s.rt.get ch).subsample).setRes1 (trackerWord (s.rt.get ch)))

/-- RTRDT (R155). -/
def execRtrdt (ch : Channel) (s : State) : Result := .next ((s.setRes0 (s.rt.get ch).ticks).setRes1 0#32)

end Sys2Proof.Machine
end

