-- ==== Sys2Proof/Machine/System.lean ====
section
/-! DEFINITION. The SYS commands: RDSTAT, CLRSTAT and NOP (44_system.md). -/

namespace Sys2Proof.Machine

/-- RDSTAT (R240); reading changes STAT not. -/
def execRdstat (s : State) : Result := .next ((s.setRes0 s.stat.word).setRes1 0#32)

/-- CLRSTAT (R241). -/
def execClrstat (s : State) : Result := .next s.clearStat

/-- NOP (R242). -/
def execNop (s : State) : Result := .next s

end Sys2Proof.Machine
end

