-- ==== Sys2Proof/Machine/Dispatch.lean ====
section
/-! DEFINITION. The meaning of a command: one arm per constructor of Instr, in the order of R74. -/

namespace Sys2Proof.Machine

def exec (i : Instr) (s : State) : Host.Outcome State Fault Refusal :=
  match i with
  -- MAP
  | .pitch coarse fine cv => Sys2Proof.Machine.execPitch coarse fine cv s
  | .div pot fine cv => Sys2Proof.Machine.execDiv pot fine cv s
  | .divmul pot fine cv => Sys2Proof.Machine.execDivmul pot fine cv s
  | .phase pot fine cv => Sys2Proof.Machine.execPhase pot fine cv s
  | .level pot fine cv => Sys2Proof.Machine.execLevel pot fine cv s
  -- RT
  | .rtstep ch signal => Sys2Proof.Machine.execRtstep ch signal s
  | .rtdisarm ch => Sys2Proof.Machine.execRtdisarm ch s
  | .rtcount ch => Sys2Proof.Machine.execRtcount ch s
  | .rtrd ch => Sys2Proof.Machine.execRtrd ch s
  | .rtrdt ch => Sys2Proof.Machine.execRtrdt ch s
  -- AUX
  | .dmdec v => Sys2Proof.Machine.execDmdec v s
  | .qdiv ch levelPot => Sys2Proof.Machine.execQdiv ch levelPot s
  | .pdiv phasePot => Sys2Proof.Machine.execPdiv phasePot s
  | .nearfs coarse => Sys2Proof.Machine.execNearfs coarse s
  | .qphase ch => Sys2Proof.Machine.execQphase ch s
  | .syncn cv => Sys2Proof.Machine.execSyncn cv s
  | .pgate coarse last synced => Sys2Proof.Machine.execPgate coarse last synced s
  | .shapesel selector offset bank quad => Sys2Proof.Machine.execShapesel selector offset bank quad s
  -- MIX
  | .mixclr => Sys2Proof.Machine.execMixclr s
  | .mixp ch level sine shape => Sys2Proof.Machine.execMixp ch level sine shape s
  | .mixq ch level sine shape => Sys2Proof.Machine.execMixq ch level sine shape s
  | .mixrd => Sys2Proof.Machine.execMixrd s
  | .mixrdg => Sys2Proof.Machine.execMixrdg s
  -- SYS
  | .rdstat => Sys2Proof.Machine.execRdstat s
  | .clrstat => Sys2Proof.Machine.execClrstat s
  | .nop => Sys2Proof.Machine.execNop s

end Sys2Proof.Machine
end

