-- ==== Sys2Proof/Machine/Step.lean ====
section
/-! DEFINITION. One step of the block: the host's next move takes effect whole, before any later one (R20, R58). -/

namespace Sys2Proof.Machine

/-- One step. A command bundle is accepted, decoded and executed (R20); a reserved one performs `raise Illegal()` (R76, R260); the reset
input resets (R290); with no move of the host, nothing changes (R276). -/
def step (s : State) : Host.Outcome State Fault Refusal :=
  match s.inbox with
  | [] => idle s
  | .reset :: rest => hostReset rest
  | .issue b :: rest =>
    match decode b with
    | .ok i => exec i (s.accept rest)
    | .error e => illegalCommand e (s.accept rest)

/-- The state in which the host issues the opcode-table word `w` next (log entry 2): `step` fetches the first move of `inbox`. -/
def State.withFetchWord (s : State) (nbits w : Nat) : State := s.issue (.issue (bundleOfTableWord nbits w))

end Sys2Proof.Machine
end

