-- ==== Sys2Proof/Safety.lean ====
section
/-! DEFINITION. What counts as a safe run, in the terms claims use: STAT.ILL stays clear (R269); the invariants of the reset tracker (R26, R147); the
host's ordering duties, which the block does not check (R300 to R303), as the shape of a tick. -/

namespace Sys2Proof.Machine

/-! ### Runs -/

/-- The status of a run that is not faulted: STAT.ILL is 0 (R269). -/
def State.clean (s : State) : Prop := s.stat.ill = false

/-- The next `n` steps complete and STAT.ILL is 0 before each and after the last (R269: the premise is for the whole run). -/
def cleanRun : Nat → State → Prop
  | 0, s => s.clean
  | n + 1, s => s.clean ∧ ∃ t, step s = .next t ∧ cleanRun n t

/-- The host issues the command `i` next and the block takes the step. -/
def commandStep (i : Instr) (s : State) : Result := step (s.issue (.issue (encode i)))

/-- The host issues the commands one after the other (R58); none where a step does not complete. -/
def runCommands : List Instr → State → Option State
  | [], s => some s
  | i :: is, s =>
    match commandStep i s with
    | .next t => runCommands is t
    | .fault _ => none
    | .refused _ => none

/-- RTSTEP on one channel with each of the samples in turn. -/
def afterSamples (p : Params) (ch : Channel) : List Code → State → State
  | [], s => s
  | x :: xs, s => afterSamples p ch xs (rtstep p ch x s)

/-! ### Invariants of the reset tracker -/

/-- R26: an armed channel's last sample is not above RT_HIGH. -/
def State.armedBelowHigh (p : Params) (s : State) : Prop :=
  ∀ ch : Channel, (s.rt.get ch).armed = true → (s.rt.get ch).prev.toInt ≤ p.rtHigh.toInt

/-- R147: every sub-sample offset lies in [0, 31]. -/
def State.subsamplesInRange (s : State) : Prop :=
  ∀ ch : Channel, 0 ≤ (s.rt.get ch).subsample.toInt ∧ (s.rt.get ch).subsample.toInt ≤ 31

/-- R147: no fire has met a zero divisor. -/
def State.noZeroDivisor (s : State) : Prop := s.stat.dz = false

/-- What R26 and R147 say of every command boundary of a block that disarms on fire. -/
def State.trackerInvariant (p : Params) (s : State) : Prop :=
  s.armedBelowHigh p ∧ s.subsamplesInRange ∧ s.noZeroDivisor

/-! ### Which command touches what -/

/-- The channel whose tracker a command addresses (R75: the RT commands), none for a command of another unit. -/
def trackerChannel : Instr → Option Channel
  | .rtstep ch _ => some ch
  | .rtdisarm ch => some ch
  | .rtcount ch => some ch
  | .rtrd ch => some ch
  | .rtrdt ch => some ch
  | .pitch _ _ _ => none
  | .div _ _ _ => none
  | .divmul _ _ _ => none
  | .phase _ _ _ => none
  | .level _ _ _ => none
  | .dmdec _ => none
  | .qdiv _ _ => none
  | .pdiv _ => none
  | .nearfs _ => none
  | .qphase _ => none
  | .syncn _ => none
  | .pgate _ _ _ => none
  | .shapesel _ _ _ _ => none
  | .mixclr => none
  | .mixp _ _ _ _ => none
  | .mixq _ _ _ _ => none
  | .mixrd => none
  | .mixrdg => none
  | .rdstat => none
  | .clrstat => none
  | .nop => none

/-! ### The host's tick (R300 to R303) -/

/-- A command of a tick's second phase: the MAP and AUX commands, RTCOUNT and RTDISARM (R300). -/
def mapPhaseCommand : Instr → Bool
  | .pitch _ _ _ => true
  | .div _ _ _ => true
  | .divmul _ _ _ => true
  | .phase _ _ _ => true
  | .level _ _ _ => true
  | .dmdec _ => true
  | .qdiv _ _ => true
  | .pdiv _ => true
  | .nearfs _ => true
  | .qphase _ => true
  | .syncn _ => true
  | .pgate _ _ _ => true
  | .shapesel _ _ _ _ => true
  | .rtcount _ => true
  | .rtdisarm _ => true
  | .rtstep _ _ => false
  | .rtrd _ => false
  | .rtrdt _ => false
  | .mixclr => false
  | .mixp _ _ _ _ => false
  | .mixq _ _ _ _ => false
  | .mixrd => false
  | .mixrdg => false
  | .rdstat => false
  | .clrstat => false
  | .nop => false

/-- What the host passes for one channel in the mixing pass: its level and its two samples (R212, R215). -/
structure MixInput where
  /-- The channel's `level()`. -/
  level : Code
  /-- The reference-sine sample. -/
  sine : Code
  /-- The selected-shape sample. -/
  shape : Code
  deriving DecidableEq, Repr

/-- The mixing pass: one MIXCLR, then one mixing command per channel in the order 3, 2, 1, 0, MIXQ in QUAD mode and MIXP in every other
(R302). -/
def mixingPass (quad : Bool) (inputs : PerChannel MixInput) : List Instr :=
  let mixing : Channel → Instr := fun ch =>
    let m := inputs.get ch
    if quad then .mixq ch m.level m.sine m.shape else .mixp ch m.level m.sine m.shape
  [.mixclr, mixing 3, mixing 2, mixing 1, mixing 0]

/-- One tick as the host issues it, in three phases (R300). -/
structure Tick where
  /-- Detect: the channel and sample of each RTSTEP, in the order issued. -/
  detect : List (Channel × Code)
  /-- Map. -/
  map : List Instr
  /-- Whether the feature mode is QUAD. -/
  quad : Bool
  /-- Mix. -/
  mix : PerChannel MixInput
  deriving DecidableEq, Repr

/-- The host's duties of a tick: one RTSTEP per channel, in any channel order (R300, R301); only commands of the map phase between detect
and mix (R300); RTCOUNT at most once per channel (R303). -/
def Tick.wellFormed (k : Tick) : Bool :=
  decide ((k.detect.map Prod.fst).Perm [0, 1, 2, 3])
    && k.map.all mapPhaseCommand
    && decide (∀ ch : Channel, k.map.count (.rtcount ch) ≤ 1)

/-- The commands of a tick, in the order the host issues them (R300). -/
def Tick.commands (k : Tick) : List Instr :=
  k.detect.map (fun cx => Instr.rtstep cx.1 cx.2) ++ k.map ++ mixingPass k.quad k.mix

end Sys2Proof.Machine
end

