-- ==== Sys2Proof/Certificates/Slice0/Obligations.lean ====
section
/-! DEFINITION. The statements for the provers. Each says what the spec's rules say of a command, a register or the whole block, in the rules' own
arithmetic; `Config.hardware` has every OPEN parameter opaque, so that a statement about it holds for every value, and a statement
over `p : Params` is about the parameterised function the meaning calls. -/

open Sys2Proof Sys2Proof.Machine

/-! ### Encoding -/

/-- R71 to R75, R77: decoding an encoded command gives the command back, with every operand at every value. -/
def Obligations.DecodeOfEncodeIsTheCommand : Prop := ∀ i : Instr, decode (encode i) = .ok i

/-- R72, R75: what a bundle decodes to, encoded again, has the bits of the bundle that the command reads. That the bits it does not read come out 0
is the encoder's own choice (log entry 15, DESIGN CHOICE): the spec gives no value for them. -/
def Obligations.EncodeOfDecodedKeepsEveryBitRead : Prop :=
  ∀ (b : Bundle) (i : Instr), decode b = .ok i → encode i = b.masked (readMask i)

/-- R72, R75: bits a command does not read have no effect: a bundle that agrees on the bits read decodes to the same command. -/
def Obligations.IgnoredBitsHaveNoEffect : Prop :=
  ∀ (b b' : Bundle) (i : Instr), decode b = .ok i → b.masked (readMask i) = b'.masked (readMask i) → decode b' = .ok i

/-- R74, R76, R77: the decoder gives a command exactly where the command byte lies in none of the four reserved ranges. -/
def Obligations.DecoderRefusesExactlyTheReservedBytes : Prop :=
  ∀ b : Bundle, (∃ i : Instr, decode b = .ok i) ↔
    ¬ ((0x14 ≤ b.cmd.toNat ∧ b.cmd.toNat ≤ 0x3F) ∨ (0x54 ≤ b.cmd.toNat ∧ b.cmd.toNat ≤ 0x7F) ∨
       (0xA0 ≤ b.cmd.toNat ∧ b.cmd.toNat ≤ 0xBF) ∨ (0xD4 ≤ b.cmd.toNat ∧ b.cmd.toNat ≤ 0xF3))

/-- R71 to R74: one word of each unit, and a reserved one, written out from the encoding. -/
def Obligations.SampleWordsDecode : Prop :=
  decode { cmd := 0x08, a := 0x7C00, b := 0x2000, c := 0x00000005 } = .ok (.divmul 31744 8192 5) ∧
  decode { cmd := 0x41, a := 0xAAAA, b := 0x7530, c := 0xAAAAAAAA } = .ok (.rtstep 1 30000) ∧
  decode { cmd := 0x9F, a := 0x0005, b := 0xAAFF, c := 0xAAAAAAAA } = .ok (.shapesel 5 255 false true) ∧
  decode { cmd := 0xCB, a := 0xFFFE, b := 0x7FFF, c := 0xABCD8001 } = .ok (.mixq 3 65534 32767 0x8001) ∧
  decode { cmd := 0xF6, a := 0x0001, b := 0x0002, c := 0x00000003 } = .ok .rdstat ∧
  decode { cmd := 0x57, a := 0x0001, b := 0x0002, c := 0x00000003 } = .error (.reserved 1 5)

/-! ### Steps -/

/-- R20, R58: a step executes the command the host issues next, on the state the earlier commands left, whose one-command strobes end
(log entry 4). -/
def Obligations.StepRunsTheDecodedCommand : Prop :=
  ∀ (s : State) (b : Bundle) (rest : List HostEvent) (i : Instr), s.inbox = .issue b :: rest → decode b = .ok i →
    step s = exec i { s with inbox := rest, wsSine := PerChannel.all false, wsAsgn := PerChannel.all false }

/-- R20, R58, R260, R262, R265: a step from a state with a move of the host to come completes, whatever the move (a reserved byte and the reset
input too), and leaves exactly the later moves to come; with no move to come it completes and changes nothing. The list of moves is the model's own
(log entry 1, DESIGN CHOICE), and the step without a move is the model's idle step (log entry 3, DEDUCED). -/
def Obligations.EveryStepCompletesAndTakesOneMove : Prop :=
  (∀ (s : State) (e : HostEvent) (rest : List HostEvent), s.inbox = e :: rest → ∃ t : State, step s = .next t ∧ t.inbox = rest) ∧
  ∀ s : State, s.inbox = [] → step s = .next s

/-- R276: with no move of the host, all state is kept. That there is a step without a move is the model's reading (log entry 3, DEDUCED). -/
def Obligations.NoMoveKeepsAllState : Prop := ∀ s : State, s.inbox = [] → step s = .next s

/-- R290: the reset input sets every piece of state to 0, with no write strobe, whatever the state was. `State.reset` is that state. -/
def Obligations.ResetInputClearsEveryRegister : Prop :=
  (∀ (s : State) (rest : List HostEvent), s.inbox = .reset :: rest → ∃ t : State, step s = .next t ∧
    t.res0 = 0 ∧ t.res1 = 0 ∧ t.stat.word = 0 ∧ t.mix.ss = 0 ∧ t.mix.sa = 0 ∧ t.mix.g = 0 ∧
    ∀ ch : Channel, (t.rt.get ch).armed = false ∧ (t.rt.get ch).triggered = false ∧ (t.rt.get ch).subsample = 0 ∧
      (t.rt.get ch).prev = 0 ∧ (t.rt.get ch).ticks = 0 ∧ t.dacSine.get ch = 0 ∧ t.dacAsgn.get ch = 0 ∧
      t.wsSine.get ch = false ∧ t.wsAsgn.get ch = false) ∧
  step { State.reset with inbox := [.reset] } = .next State.reset

/-- R76, R260: a reserved command sets STAT.ILL, which is STAT bit 0, and changes no other register, and the next command is accepted; from then
on every step keeps STAT.ILL until CLRSTAT or the reset input. That the write strobes of the command before it end with it is the model's reading of
R29 (log entry 4, DEDUCED), and that the move taken leaves the list of moves is log entry 1's. -/
def Obligations.ReservedCommandSetsIllUntilCleared : Prop :=
  (∀ (s : State) (b : Bundle) (rest : List HostEvent), s.inbox = .issue b :: rest → b.wellFormed = false →
    step s = .next { s with
      stat := { s.stat with ill := true }, inbox := rest, wsSine := PerChannel.all false, wsAsgn := PerChannel.all false }) ∧
  (∀ s : State, s.stat.word.getLsbD 0 = s.stat.ill) ∧
  (∀ s t : State, s.stat.ill = true → step s = .next t →
    t.stat.ill = true ∨ (∃ rest, s.inbox = .reset :: rest) ∨ (∃ b rest, s.inbox = .issue b :: rest ∧ decode b = .ok .clrstat))

/-- R23, R261: among the commands only CLRSTAT clears a bit of STAT, none sets ILL, and only an RTSTEP sets DZ, by a fire whose sample equals
the one before it. -/
def Obligations.CommandsWriteStatOnlyAsStated : Prop :=
  ∀ (i : Instr) (s t : State), exec i s = .next t →
    (i = .clrstat ∧ t.stat = { ill := false, dz := false }) ∨
    (i ≠ .clrstat ∧ t.stat.ill = s.stat.ill ∧
      (t.stat.dz = s.stat.dz ∨
        (t.stat.dz = true ∧ ∃ (ch : Channel) (x : Code), i = .rtstep ch x ∧ (t.rt.get ch).triggered = true ∧
          (s.rt.get ch).prev = x ∧ (t.rt.get ch).subsample = 0)))

/-- R260, R269: a run is clean as long as the host issues no reserved byte. -/
def Obligations.RunWithoutReservedBytesIsClean : Prop :=
  ∀ (n : Nat) (s : State), s.clean → (∀ b : Bundle, HostEvent.issue b ∈ s.inbox → b.wellFormed = true) → cleanRun n s

/-! ### Control mapper -/

/-- R101, R102: PITCH, its encoding, its result (the exact sum wrapped to 16 bits and sign-extended) and its frame. -/
def Obligations.PitchWritesTheWrappedSum : Prop :=
  (∀ (ch : Channel) (a b : Code) (c : Word), decode { cmd := BitVec.ofNat 8 (0x00 + ch.val), a := a, b := b, c := c } = .ok (.pitch a b c)) ∧
  ∀ (coarse fine : Code) (cv : Word) (s : State), ∃ v : Word,
    exec (.pitch coarse fine cv) s = .next { s with res0 := v } ∧
    v.toInt = Int.bmod (Config.hardware.pitchCurve coarse - Config.hardware.pitchCenter
      + (fine.toInt * Config.hardware.kFinePitch).tdiv 65536 + (cv.toInt * Config.hardware.kCvPitch).tdiv 32768) 65536

/-- R103: the spans of PITCH's fine term and, for |cv| ≤ 32768, of its CV term, for every K_FINE_PITCH and K_CV_PITCH. -/
def Obligations.PitchTermsSpanOneAndFiveOctaves : Prop :=
  ∀ (p : Params) (coarse fine : Code) (cv : Word), -32768 ≤ cv.toInt → cv.toInt ≤ 32768 →
    ∃ f c : Int, pitchSum p coarse fine cv = (p.pitchCurve coarse - p.pitchCenter) + f + c ∧
      f = pitchSum p coarse fine 0 - pitchSum p coarse 0 0 ∧
      -(p.kFinePitch : Int) ≤ 2 * f ∧ 2 * f ≤ p.kFinePitch ∧ -(p.kCvPitch : Int) ≤ c ∧ c ≤ p.kCvPitch

/-- R111, R112: DIV, its encoding, its result, which lies in [1, 64] for every operand value, and its frame. -/
def Obligations.DivWritesTheClampedDivider : Prop :=
  (∀ (ch : Channel) (a b : Code) (c : Word), decode { cmd := BitVec.ofNat 8 (0x04 + ch.val), a := a, b := b, c := c } = .ok (.div a b c)) ∧
  ∀ (pot fine : Code) (cv : Word) (s : State), ∃ v : Word,
    exec (.div pot fine cv) s = .next { s with res0 := v } ∧
    v.toInt = min (max (Config.hardware.divideCurve (BitVec.ofInt 16 (min (max ((pot.toNat : Int) + cv.toInt) 0) 65535))
      + Config.hardware.divFine fine) 1) 64 ∧
    1 ≤ v.toInt ∧ v.toInt ≤ 64

/-- R121, R122, R123: DIVMUL, its encoding, its result through the tie-break table and the final clamp, and its frame. -/
def Obligations.DivmulWritesTheTieBrokenCode : Prop :=
  (∀ (ch : Channel) (a b : Code) (c : Word), decode { cmd := BitVec.ofNat 8 (0x08 + ch.val), a := a, b := b, c := c } = .ok (.divmul a b c)) ∧
  ∀ (pot fine : Code) (cv : Word) (s : State), ∃ v : Word,
    exec (.divmul pot fine cv) s = .next { s with res0 := v } ∧
    (let f := Config.hardware.dmFine fine
     let v0 := Config.hardware.divmulCurve (BitVec.ofInt 16 (min (max ((pot.toNat : Int) + cv.toInt) 0) 65535)) + f
     let v1 := if v0 = 0 ∧ f > 1 then -2 else if v0 = -1 ∧ f > 1 then -3 else if v0 = 0 ∧ f = 1 then -2
       else if v0 = 0 ∧ f < -1 then 2 else v0
     v.toInt = if v1 ≥ 0 then min (max v1 1) 64 else min (max v1 (-64)) (-2))

/-- R124: for every operand value and every DIVMUL_CURVE and DM_FINE the result is in [-64, -2] or [1, 64], never 0 or -1, and the pairs the
tie-break table leaves uncovered resolve as stated; DIVMUL writes that result. -/
def Obligations.DivmulNeverGivesZeroOrMinusOne : Prop :=
  (∀ (p : Params) (pot fine : Code) (cv : Word),
    let f := p.dmFine fine
    let v0 := p.divmulCurve (BitVec.ofInt 16 (min (max ((pot.toNat : Int) + cv.toInt) 0) 65535)) + f
    let v := (divmulValue p pot fine cv).toInt
    ((-64 ≤ v ∧ v ≤ -2) ∨ (1 ≤ v ∧ v ≤ 64)) ∧ v ≠ 0 ∧ v ≠ -1 ∧
    (v0 = 0 → f = 0 ∨ f = -1 → v = 1) ∧ (v0 = -1 → f ≤ 1 → v = -2)) ∧
  ∀ (pot fine : Code) (cv : Word) (s : State),
    exec (.divmul pot fine cv) s = .next { s with res0 := divmulValue Config.hardware pot fine cv }

/-- R125, R171: the meaning of a DIVMUL result is the pair DMDEC makes of its low half: a positive code v > 1 is divider v, a negative code is
multiplier -v, and 1 is the identity; nothing else occurs. -/
def Obligations.DmdecInterpretsEveryDivmulResult : Prop :=
  ∀ (pot fine : Code) (cv : Word) (s : State), ∃ (v : Word) (t : State),
    exec (.divmul pot fine cv) s = .next { s with res0 := v } ∧
    exec (.dmdec (v.extractLsb' 0 16)) { s with res0 := v } = .next t ∧
    ((v.toInt > 1 ∧ t.res0.toInt = 1 ∧ t.res1.toInt = v.toInt) ∨
     (v.toInt < -1 ∧ t.res0.toInt = -v.toInt ∧ t.res1.toInt = 1) ∨
     (v.toInt = 1 ∧ t.res0.toInt = 1 ∧ t.res1.toInt = 1))

/-- R131: PHASE, its encoding, its result and its frame. -/
def Obligations.PhaseWritesTheCurveOfTheInvertedPot : Prop :=
  (∀ (ch : Channel) (a b : Code) (c : Word), decode { cmd := BitVec.ofNat 8 (0x0C + ch.val), a := a, b := b, c := c } = .ok (.phase a b c)) ∧
  ∀ (pot fine : Code) (cv : Word) (s : State), ∃ v : Word,
    exec (.phase pot fine cv) s = .next { s with res0 := v } ∧
    v.toNat = (Config.hardware.linearCurve (BitVec.ofInt 16
      (min (max ((65536 - (pot.toNat : Int)) + cv.toInt + fine.toInt.tdiv 8) 0) 65535))).toNat

/-- R136: LEVEL, its encoding, its result and its frame. -/
def Obligations.LevelWritesTheCurveOfTheOffsetPot : Prop :=
  (∀ (ch : Channel) (a b : Code) (c : Word), decode { cmd := BitVec.ofNat 8 (0x10 + ch.val), a := a, b := b, c := c } = .ok (.level a b c)) ∧
  ∀ (pot fine : Code) (cv : Word) (s : State), ∃ v : Word,
    exec (.level pot fine cv) s = .next { s with res0 := v } ∧
    v.toNat = (Config.hardware.linearCurve (BitVec.ofInt 16
      (min (max ((pot.toNat : Int) + cv.toInt + Config.hardware.levelOffset + fine.toInt.tdiv 4) 0) 65535))).toNat

/-- R52, R137: PHASE and LEVEL read one curve: under the named property that it is affine there is ONE pair of coefficients for both, wherever
the clamp does not bind. -/
def Obligations.PhaseAndLevelShareOneLinearCurve : Prop :=
  ∀ p : Params, p.LinearAffine → ∃ slope offset : Int,
    (∀ (pot fine : Code) (cv : Word),
      0 ≤ (65536 - (pot.toNat : Int)) + cv.toInt + fine.toInt.tdiv 8 → (65536 - (pot.toNat : Int)) + cv.toInt + fine.toInt.tdiv 8 ≤ 65535 →
      ((phaseValue p pot fine cv).toNat : Int) = slope * ((65536 - (pot.toNat : Int)) + cv.toInt + fine.toInt.tdiv 8) + offset) ∧
    (∀ (pot fine : Code) (cv : Word),
      0 ≤ (pot.toNat : Int) + cv.toInt + p.levelOffset + fine.toInt.tdiv 4 → (pot.toNat : Int) + cv.toInt + p.levelOffset + fine.toInt.tdiv 4 ≤ 65535 →
      ((levelValue p pot fine cv).toNat : Int) = slope * ((pot.toNat : Int) + cv.toInt + p.levelOffset + fine.toInt.tdiv 4) + offset)

/-! ### Reset tracker -/

/-- R141 to R145: RTSTEP, its encoding, its whole effect under both values of RT_DISARM_ON_FIRE, and its frame. -/
def Obligations.RtstepAdvancesTheTracker : Prop :=
  (∀ (ch : Channel) (a b : Code) (c : Word), decode { cmd := BitVec.ofNat 8 (0x40 + ch.val), a := a, b := b, c := c } = .ok (.rtstep ch b)) ∧
  (∀ (ch : Channel) (signal : Code) (s : State), exec (.rtstep ch signal) s = .next (rtstep Config.hardware ch signal s)) ∧
  Config.hardware.rtDisarmOnFire = true ∧
  ∀ (p : Params) (ch : Channel) (signal : Code) (s : State),
    let r := s.rt.get ch
    let x := signal.toInt
    let arming := decide (x < p.rtLow.toInt)
    let fired := !arming && decide (x > p.rtHigh.toInt) && r.armed
    let d := x - r.prev.toInt
    let subsample : Word := if fired then (if d = 0 then 0 else BitVec.ofInt 32 (((p.rtHigh.toInt - r.prev.toInt) * 32).tdiv d)) else r.subsample
    rtstep p ch signal s = { s with
      rt := s.rt.set ch {
        armed := if arming then true else if fired && p.rtDisarmOnFire then false else r.armed
        triggered := fired
        subsample := subsample
        prev := signal
        ticks := r.ticks }
      stat := { ill := s.stat.ill, dz := s.stat.dz || (fired && decide (d = 0)) }
      res0 := if fired then 1 else 0
      res1 := subsample }

/-- R25, R27: RT[ch].subsample is written only by an RTSTEP that fires on channel ch, RT[ch].ticks only by RTCOUNT on it. -/
def Obligations.SubsampleAndTicksHaveOneWriter : Prop :=
  ∀ (i : Instr) (s t : State) (ch : Channel), exec i s = .next t →
    ((t.rt.get ch).subsample = (s.rt.get ch).subsample ∨
      ∃ x : Code, i = .rtstep ch x ∧ (s.rt.get ch).armed = true ∧ Config.hardware.rtHigh.toInt < x.toInt ∧ (t.rt.get ch).triggered = true) ∧
    ((t.rt.get ch).ticks = (s.rt.get ch).ticks ∨ i = .rtcount ch)

/-- R26: with RT_DISARM_ON_FIRE true, an armed channel's last sample is not above RT_HIGH; every step of the hardware keeps it. -/
def Obligations.StepKeepsArmedBelowHigh : Prop :=
  ∀ s t : State, s.armedBelowHigh Config.hardware → step s = .next t → t.armedBelowHigh Config.hardware

/-- R26, R147: every step of the hardware keeps the whole tracker invariant: armed channels below RT_HIGH, every sub-sample in [0, 31], no
zero divisor ever met. -/
def Obligations.StepKeepsTrackerInvariant : Prop :=
  ∀ s t : State, s.trackerInvariant Config.hardware → step s = .next t → t.trackerInvariant Config.hardware

/-- R26, R290: the state after reset meets the tracker invariant, for every parameters. -/
def Obligations.ResetMeetsTrackerInvariant : Prop := ∀ p : Params, State.reset.trackerInvariant p

/-- R147: with RT_DISARM_ON_FIRE true, a fire from a state that meets R26's invariant has its sample above RT_HIGH and the previous one not, a
positive divisor, and a sub-sample in [0, 31]; STAT.DZ is not set by it. -/
def Obligations.FireInterpolatesWithinOneTick : Prop :=
  ∀ (p : Params) (ch : Channel) (x : Code) (s : State), p.rtDisarmOnFire = true → s.armedBelowHigh p →
    ((rtstep p ch x s).rt.get ch).triggered = true →
    (s.rt.get ch).prev.toInt ≤ p.rtHigh.toInt ∧ p.rtHigh.toInt < x.toInt ∧
    0 ≤ ((rtstep p ch x s).rt.get ch).subsample.toInt ∧ ((rtstep p ch x s).rt.get ch).subsample.toInt ≤ 31 ∧
    (rtstep p ch x s).stat = s.stat

/-- R149: whatever came before, a sample not above RT_HIGH does not fire; and a signal that goes from below RT_LOW to above RT_HIGH fires at once
with a sub-sample in [0, 31], and then, whatever the later samples are, not again while none of them is below RT_LOW. -/
def Obligations.FiresOnceUntilBelowLow : Prop :=
  (∀ (p : Params) (ch : Channel) (xs : List Code) (x : Code) (s : State), x.toInt ≤ p.rtHigh.toInt →
    ((afterSamples p ch (xs ++ [x]) s).rt.get ch).triggered = false) ∧
  ∀ (p : Params) (ch : Channel) (lo hi : Code) (later : List Code) (last : Code) (s : State), p.rtDisarmOnFire = true →
    lo.toInt < p.rtLow.toInt → p.rtHigh.toInt < hi.toInt → (∀ x ∈ later, p.rtLow.toInt ≤ x.toInt) → p.rtLow.toInt ≤ last.toInt →
    ((afterSamples p ch [lo, hi] s).rt.get ch).triggered = true ∧
    0 ≤ ((afterSamples p ch [lo, hi] s).rt.get ch).subsample.toInt ∧ ((afterSamples p ch [lo, hi] s).rt.get ch).subsample.toInt ≤ 31 ∧
    ((afterSamples p ch ([lo, hi] ++ later ++ [last]) s).rt.get ch).triggered = false

/-- R156: after reset every channel is unarmed with prev = 0, and no sequence of commands arms or fires a channel unless it has an RTSTEP on that
channel with a sample below RT_LOW. -/
def Obligations.NoFireBeforeASampleBelowLow : Prop :=
  (∀ ch : Channel, (State.reset.rt.get ch).armed = false ∧ (State.reset.rt.get ch).prev = 0) ∧
  ∀ (ch : Channel) (is : List Instr), (∀ x : Code, Instr.rtstep ch x ∈ is → Config.hardware.rtLow.toInt ≤ x.toInt) →
    ∃ t : State, runCommands is State.reset = some t ∧ (t.rt.get ch).armed = false ∧ (t.rt.get ch).triggered = false

/-- R157: a command writes the tracker of its own channel only, and what it leaves there and in the result registers depends, of the trackers,
on its own channel's alone. -/
def Obligations.TrackersAreIndependent : Prop :=
  (∀ (i : Instr) (s t : State) (ch : Channel), exec i s = .next t → trackerChannel i ≠ some ch → t.rt.get ch = s.rt.get ch) ∧
  (∀ (i : Instr) (s t : State) (rt' : PerChannel Tracker), exec i s = .next t →
    (∀ ch : Channel, trackerChannel i = some ch → rt'.get ch = s.rt.get ch) →
    ∃ t' : State, exec i { s with rt := rt' } = .next t' ∧ t' = { t with rt := t'.rt } ∧
      ∀ ch : Channel, trackerChannel i = some ch → t'.rt.get ch = t.rt.get ch)

/-- R150: RTDISARM, its encoding, its effect and its frame. -/
def Obligations.RtdisarmClearsArmedOnly : Prop :=
  (∀ (ch : Channel) (a b : Code) (c : Word), decode { cmd := BitVec.ofNat 8 (0x44 + ch.val), a := a, b := b, c := c } = .ok (.rtdisarm ch)) ∧
  ∀ (ch : Channel) (s : State), exec (.rtdisarm ch) s = .next { s with rt := s.rt.set ch { s.rt.get ch with armed := false } }

/-- R152: RTCOUNT, its encoding, its effect (the counter modulo 2^32, restarted by a fired reset) and its frame. -/
def Obligations.RtcountAdvancesTheTickCounter : Prop :=
  (∀ (ch : Channel) (a b : Code) (c : Word), decode { cmd := BitVec.ofNat 8 (0x48 + ch.val), a := a, b := b, c := c } = .ok (.rtcount ch)) ∧
  ∀ (ch : Channel) (s : State), ∃ ticks : Word,
    exec (.rtcount ch) s = .next { s with
      rt := s.rt.set ch { s.rt.get ch with ticks := ticks }
      res0 := (s.rt.get ch).ticks
      res1 := if (s.rt.get ch).triggered then 1 else 0 } ∧
    ticks.toNat = if (s.rt.get ch).triggered then Config.hardware.tickRestart.toNat else ((s.rt.get ch).ticks.toNat + 1) % 2 ^ 32

/-- R154: RTRD, its encoding, its results (triggered in RES1[17], armed in RES1[16], prev in RES1[15:0]) and its frame. -/
def Obligations.RtrdReadsTheTracker : Prop :=
  (∀ (ch : Channel) (a b : Code) (c : Word), decode { cmd := BitVec.ofNat 8 (0x4C + ch.val), a := a, b := b, c := c } = .ok (.rtrd ch)) ∧
  ∀ (ch : Channel) (s : State), ∃ v : Word,
    exec (.rtrd ch) s = .next { s with res0 := (s.rt.get ch).subsample, res1 := v } ∧
    v.toNat = (if (s.rt.get ch).triggered then 131072 else 0) + (if (s.rt.get ch).armed then 65536 else 0) + (s.rt.get ch).prev.toNat

/-- R155: RTRDT, its encoding, its results and its frame. -/
def Obligations.RtrdtReadsTheTickCounter : Prop :=
  (∀ (ch : Channel) (a b : Code) (c : Word), decode { cmd := BitVec.ofNat 8 (0x50 + ch.val), a := a, b := b, c := c } = .ok (.rtrdt ch)) ∧
  ∀ (ch : Channel) (s : State), exec (.rtrdt ch) s = .next { s with res0 := (s.rt.get ch).ticks, res1 := 0 }

/-! ### Orchestrator quantisers -/

/-- R170: DMDEC, its encoding, its results and its frame. -/
def Obligations.DmdecWritesMultiplierAndDivider : Prop :=
  (∀ (ch : Channel) (a b : Code) (c : Word), decode { cmd := BitVec.ofNat 8 (0x80 + ch.val), a := a, b := b, c := c } = .ok (.dmdec b)) ∧
  ∀ (v : Code) (s : State), ∃ m d : Word,
    exec (.dmdec v) s = .next { s with res0 := m, res1 := d } ∧
    ((m.toNat : Int), (d.toNat : Int)) = if v.toInt > 1 then (1, v.toInt) else if v.toInt < -1 then (-v.toInt, 1) else (1, 1)

/-- R174, R175: QDIV, its encoding, its frame, and its result: the clamped formula, which is `i + 1` plus a term in seven ranges of the pot, so
that the clamp never binds. -/
def Obligations.QdivWritesTheQuadSlaveDivider : Prop :=
  (∀ (ch : Channel) (a b : Code) (c : Word), decode { cmd := BitVec.ofNat 8 (0x84 + ch.val), a := a, b := b, c := c } = .ok (.qdiv ch a)) ∧
  ∀ (ch : Channel) (pot : Code) (s : State), ∃ v : Word,
    exec (.qdiv ch pot) s = .next { s with res0 := v } ∧
    (v.toNat : Int) = min (max ((7 * (65535 - (pot.toNat : Int))).tdiv 65536 + (ch.val + 1)) 1) 16 ∧
    v.toNat = ch.val + 1 + (if pot.toNat ≤ 9361 then 6 else if pot.toNat ≤ 18723 then 5 else if pot.toNat ≤ 28085 then 4
      else if pot.toNat ≤ 37448 then 3 else if pot.toNat ≤ 46810 then 2 else if pot.toNat ≤ 56172 then 1 else 0)

/-- R177, R178: PDIV, its encoding, its result, which lies in [1, 6], and its frame. -/
def Obligations.PdivWritesThePhaseSlaveDivider : Prop :=
  (∀ (ch : Channel) (a b : Code) (c : Word), decode { cmd := BitVec.ofNat 8 (0x88 + ch.val), a := a, b := b, c := c } = .ok (.pdiv a)) ∧
  ∀ (pot : Code) (s : State), ∃ v : Word,
    exec (.pdiv pot) s = .next { s with res0 := v } ∧
    (v.toNat : Int) = min (max ((7 * (65535 - (pot.toNat : Int))).tdiv 65536) 1) 16 ∧ 1 ≤ v.toNat ∧ v.toNat ≤ 6

/-- R180: NEARFS, its encoding, its result, which is 1 from 65280 on, and its frame. -/
def Obligations.NearfsTestsTheTop256Codes : Prop :=
  (∀ (ch : Channel) (a b : Code) (c : Word), decode { cmd := BitVec.ofNat 8 (0x8C + ch.val), a := a, b := b, c := c } = .ok (.nearfs a)) ∧
  ∀ (coarse : Code) (s : State), exec (.nearfs coarse) s = .next { s with res0 := if 65280 ≤ coarse.toNat then 1 else 0 }

/-- R183: QPHASE, its encoding, its result and its frame. -/
def Obligations.QphaseWritesTheQuadraturePhase : Prop :=
  (∀ (ch : Channel) (a b : Code) (c : Word), decode { cmd := BitVec.ofNat 8 (0x90 + ch.val), a := a, b := b, c := c } = .ok (.qphase ch)) ∧
  ∀ (ch : Channel) (s : State), ∃ v : Word,
    exec (.qphase ch) s = .next { s with res0 := v } ∧ v.toNat = (4 - ch.val) * 16384 % 65536

/-- R186, R187: SYNCN, its encoding, its results, whose count is in [1, 9] for |cv| ≤ 32768 and 9 at ±32767 and -32768, and its frame. -/
def Obligations.SyncnWritesMultiplierOrDivider : Prop :=
  (∀ (ch : Channel) (a b : Code) (c : Word), decode { cmd := BitVec.ofNat 8 (0x94 + ch.val), a := a, b := b, c := c } = .ok (.syncn c)) ∧
  ∀ (cv : Word) (s : State), ∃ (m d : Word) (n : Int),
    n = (|cv.toInt| * 8).tdiv 32767 + 1 ∧
    exec (.syncn cv) s = .next { s with res0 := m, res1 := d } ∧
    ((m.toNat : Int), (d.toNat : Int)) = (if cv.toInt > 0 then (n, 1) else if cv.toInt < 0 then (1, n) else (1, 1)) ∧
    (|cv.toInt| ≤ 32768 → 1 ≤ n ∧ n ≤ 9) ∧ (cv.toInt = 32767 ∨ cv.toInt = -32767 ∨ cv.toInt = -32768 → n = 9)

/-- R190: PGATE, its encoding, its results and its frame. -/
def Obligations.PgateAppliesAndBreaksTheLock : Prop :=
  (∀ (ch : Channel) (a b : Code) (c : Word),
    decode { cmd := BitVec.ofNat 8 (0x98 + ch.val), a := a, b := b, c := c } = .ok (.pgate a b (c.getLsbD 0))) ∧
  ∀ (coarse last : Code) (synced : Bool) (s : State), ∃ v : Word,
    (let moved := decide (|(coarse.toNat : Int) - (last.toNat : Int)| > 1638)
     let apply := !synced || moved
     exec (.pgate coarse last synced) s = .next { s with res0 := if apply then 1 else 0, res1 := v } ∧
     v.toNat = (if synced && !moved then 65536 else 0) + (if apply then coarse else last).toNat)

/-- R194: SHAPESEL, its encoding, its result for every shape code that 32 bits hold, under every assignment of the shape codes, and its frame;
for a wider code the result is the free value of log entry 10, the model's own. -/
def Obligations.ShapeselWritesTheActiveShape : Prop :=
  (∀ (ch : Channel) (a b : Code) (c : Word),
    decode { cmd := BitVec.ofNat 8 (0x9C + ch.val), a := a, b := b, c := c } = .ok (.shapesel a (b.extractLsb' 0 8) (c.getLsbD 0) (c.getLsbD 1))) ∧
  (∀ (selector : Code) (offset : Byte) (bank quad : Bool) (s : State),
    exec (.shapesel selector offset bank quad) s = .next { s with res0 := shapeValue Config.hardware selector offset bank quad }) ∧
  ∀ (p : Params) (selector : Code) (offset : Byte) (bank quad : Bool),
    let code := (if bank then p.shapeBaseRandom else p.shapeBaseClassic) + (selector.toNat + offset.toNat) % 4
    let final := if quad = true ∧ code = p.shapeTrapezoid then p.shapeSquare else code
    final < 2 ^ 32 → (shapeValue p selector offset bank quad).toNat = final

/-- R195: the shape does not depend on whether the host's `waveform_offset` has wrapped modulo 256: an offset counted without bound and its
wrapped value select the same shape, and two offsets equal modulo 4 do. -/
def Obligations.WaveformOffsetWrapIsInvisible : Prop :=
  ∀ (p : Params) (selector : Code) (offset offset' : Byte) (bank quad : Bool), offset.toNat % 4 = offset'.toNat % 4 →
    shapeValue p selector offset bank quad = shapeValue p selector offset' bank quad ∧
    ∀ n : Nat, n % 256 = offset.toNat →
      shapeCode p selector offset bank = (if bank then p.shapeBaseRandom else p.shapeBaseClassic) + (selector.toNat + n) % 4

/-! ### Output mixer -/

/-- R210: MIXCLR, its encoding, its effect and its frame. -/
def Obligations.MixclrClearsTheAccumulators : Prop :=
  (∀ (ch : Channel) (a b : Code) (c : Word), decode { cmd := BitVec.ofNat 8 (0xC0 + ch.val), a := a, b := b, c := c } = .ok .mixclr) ∧
  ∀ s : State, exec .mixclr s = .next { s with mix := { ss := 0, sa := 0, g := 0 } }

/-- R212: MIXP, its encoding (C[31:16] ignored), its effect with both write strobes of the channel, and its frame. -/
def Obligations.MixpPassesTheSamplesThrough : Prop :=
  (∀ (ch : Channel) (a b hi lo : Code),
    decode { cmd := BitVec.ofNat 8 (0xC4 + ch.val), a := a, b := b, c := hi ++ lo } = .ok (.mixp ch a b lo)) ∧
  ∀ (ch : Channel) (level sine shape : Code) (s : State), ∃ x y l : Word,
    exec (.mixp ch level sine shape) s = .next { s with
      mix := { ss := x, sa := y, g := l }
      dacSine := s.dacSine.set ch x, dacAsgn := s.dacAsgn.set ch y
      wsSine := s.wsSine.set ch true, wsAsgn := s.wsAsgn.set ch true
      res0 := x, res1 := y } ∧
    x.toInt = sine.toInt ∧ y.toInt = shape.toInt ∧ l.toNat = level.toNat

/-- R214, R215: MIXQ, its encoding (C[31:16] ignored), the wrapping accumulators, the normalised outputs with both write strobes of the channel,
and its frame. -/
def Obligations.MixqAccumulatesAndNormalises : Prop :=
  (∀ (ch : Channel) (a b hi lo : Code),
    decode { cmd := BitVec.ofNat 8 (0xC8 + ch.val), a := a, b := b, c := hi ++ lo } = .ok (.mixq ch a b lo)) ∧
  ∀ (ch : Channel) (level sine shape : Code) (s : State), ∃ ss sa g x y : Word,
    exec (.mixq ch level sine shape) s = .next { s with
      mix := { ss := ss, sa := sa, g := g }
      dacSine := s.dacSine.set ch x, dacAsgn := s.dacAsgn.set ch y
      wsSine := s.wsSine.set ch true, wsAsgn := s.wsAsgn.set ch true
      res0 := x, res1 := y } ∧
    ss.toInt = Int.bmod (s.mix.ss.toInt + sine.toInt) (2 ^ 32) ∧ sa.toInt = Int.bmod (s.mix.sa.toInt + shape.toInt) (2 ^ 32) ∧
    g.toNat = (s.mix.g.toNat + level.toNat) % 2 ^ 32 ∧
    x.toInt = Int.bmod ((ss.toInt * 8192).tdiv (max (g.toNat : Int) 65535) * 8) (2 ^ 32) ∧
    y.toInt = Int.bmod ((sa.toInt * 8192).tdiv (max (g.toNat : Int) 65535) * 8) (2 ^ 32)

/-- R216, R218, R222: one QUAD mixing pass in the host's order 3, 2, 1, 0 leaves on channel k the normalised mix of channels 3 down to k, exactly,
with no wrap anywhere, for every level and sample, from every state. -/
def Obligations.QuadPassMixesChannelsThreeDownToEach : Prop :=
  ∀ (m : PerChannel MixInput) (s : State), ∃ t : State, runCommands (mixingPass true m) s = some t ∧
    ∀ k : Channel,
      let above := (List.finRange 4).filter (fun j => k ≤ j)
      let sines := (above.map fun j => (m.get j).sine.toInt).sum
      let shapes := (above.map fun j => (m.get j).shape.toInt).sum
      let gain := (above.map fun j => ((m.get j).level.toNat : Int)).sum
      (t.dacSine.get k).toInt = (sines * 8192).tdiv (max gain 65535) * 8 ∧
      (t.dacAsgn.get k).toInt = (shapes * 8192).tdiv (max gain 65535) * 8 ∧
      (k = 0 → t.mix.ss.toInt = sines ∧ t.mix.sa.toInt = shapes ∧ (t.mix.g.toNat : Int) = gain)

/-- R218: when every sample is at most half its level in magnitude, every output of the QUAD pass lies in [-32768, 32768]. -/
def Obligations.LevelScaledQuadPassStaysInRange : Prop :=
  ∀ (m : PerChannel MixInput) (s : State),
    (∀ k : Channel, 2 * |(m.get k).sine.toInt| ≤ (m.get k).level.toNat ∧ 2 * |(m.get k).shape.toInt| ≤ (m.get k).level.toNat) →
    ∃ t : State, runCommands (mixingPass true m) s = some t ∧
      ∀ k : Channel, -32768 ≤ (t.dacSine.get k).toInt ∧ (t.dacSine.get k).toInt ≤ 32768 ∧
        -32768 ≤ (t.dacAsgn.get k).toInt ∧ (t.dacAsgn.get k).toInt ≤ 32768

/-- R220, R221: MIXRD and MIXRDG, their encodings, their results and their frames. -/
def Obligations.MixrdAndMixrdgReadTheAccumulators : Prop :=
  (∀ (ch : Channel) (a b : Code) (c : Word), decode { cmd := BitVec.ofNat 8 (0xCC + ch.val), a := a, b := b, c := c } = .ok .mixrd ∧
    decode { cmd := BitVec.ofNat 8 (0xD0 + ch.val), a := a, b := b, c := c } = .ok .mixrdg) ∧
  ∀ s : State, exec .mixrd s = .next { s with res0 := s.mix.ss, res1 := s.mix.sa } ∧
    exec .mixrdg s = .next { s with res0 := s.mix.g, res1 := 0 }

/-- R28, R29: among the commands only MIXCLR, MIXP and MIXQ write the accumulators, and only MIXP and MIXQ the DAC registers, on their own
channel. -/
def Obligations.OnlyMixCommandsWriteAccumulatorsAndDac : Prop :=
  ∀ (i : Instr) (s t : State) (ch : Channel), exec i s = .next t →
    (t.mix = s.mix ∨ i = .mixclr ∨ ∃ k l x y, i = .mixp k l x y ∨ i = .mixq k l x y) ∧
    ((t.dacSine.get ch = s.dacSine.get ch ∧ t.dacAsgn.get ch = s.dacAsgn.get ch) ∨ ∃ l x y, i = .mixp ch l x y ∨ i = .mixq ch l x y)

/-- R29: after a command, a channel's write strobes are up exactly when that command wrote the channel's DAC registers. That a strobe stays up
until the next command is accepted is the model's reading (log entry 4). -/
def Obligations.StrobesMarkTheLastCommandsDacWrites : Prop :=
  ∀ (i : Instr) (s t : State) (ch : Channel), commandStep i s = .next t →
    (t.wsSine.get ch = true ↔ ∃ l x y, i = .mixp ch l x y ∨ i = .mixq ch l x y) ∧ t.wsAsgn.get ch = t.wsSine.get ch

/-! ### System and the whole block -/

/-- R240: RDSTAT, its encoding, its results (ILL in bit 0, DZ in bit 1, bits 31:2 zero) and its frame. -/
def Obligations.RdstatReadsTheStatusRegister : Prop :=
  (∀ (ch : Channel) (a b : Code) (c : Word), decode { cmd := BitVec.ofNat 8 (0xF4 + ch.val), a := a, b := b, c := c } = .ok .rdstat) ∧
  ∀ s : State, ∃ v : Word, exec .rdstat s = .next { s with res0 := v, res1 := 0 } ∧
    v.toNat = (if s.stat.ill then 1 else 0) + (if s.stat.dz then 2 else 0)

/-- R241: CLRSTAT, its encoding, its effect and its frame. -/
def Obligations.ClrstatClearsTheStatusRegister : Prop :=
  (∀ (ch : Channel) (a b : Code) (c : Word), decode { cmd := BitVec.ofNat 8 (0xF8 + ch.val), a := a, b := b, c := c } = .ok .clrstat) ∧
  ∀ s : State, exec .clrstat s = .next { s with stat := { ill := false, dz := false } }

/-- R242: NOP, its encoding; it leaves the whole state unchanged. -/
def Obligations.NopChangesNothing : Prop :=
  (∀ (ch : Channel) (a b : Code) (c : Word), decode { cmd := BitVec.ofNat 8 (0xFC + ch.val), a := a, b := b, c := c } = .ok .nop) ∧
  ∀ s : State, exec .nop s = .next s

/-- R57: a read command changes only the result registers, and issued again gives the same. -/
def Obligations.ReadCommandsChangeOnlyResultsAndRepeat : Prop :=
  ∀ (i : Instr) (s : State), (i = .rdstat ∨ i = .mixrd ∨ i = .mixrdg ∨ (∃ ch, i = .rtrd ch) ∨ (∃ ch, i = .rtrdt ch)) →
    ∃ v w : Word, exec i s = .next { s with res0 := v, res1 := w } ∧
      exec i { s with res0 := v, res1 := w } = .next { s with res0 := v, res1 := w }

/-- R22: the result registers, and R29: the DAC registers, are outputs: with other values in them a command does the same to everything else, and each
of these registers it leaves either as the command's result, the same in both runs, or as it was before. -/
def Obligations.OutputsAreNeverReadBack : Prop :=
  ∀ (i : Instr) (s t : State) (v w : Word) (sine asgn : PerChannel Word), exec i s = .next t →
    ∃ t' : State, exec i { s with res0 := v, res1 := w, dacSine := sine, dacAsgn := asgn } = .next t' ∧
      t'.stat = t.stat ∧ t'.rt = t.rt ∧ t'.mix = t.mix ∧ t'.wsSine = t.wsSine ∧ t'.wsAsgn = t.wsAsgn ∧ t'.inbox = t.inbox ∧
      (t'.res0 = t.res0 ∨ (t.res0 = s.res0 ∧ t'.res0 = v)) ∧
      (t'.res1 = t.res1 ∨ (t.res1 = s.res1 ∧ t'.res1 = w)) ∧
      ∀ ch : Channel,
        (t'.dacSine.get ch = t.dacSine.get ch ∨ (t.dacSine.get ch = s.dacSine.get ch ∧ t'.dacSine.get ch = sine.get ch)) ∧
        (t'.dacAsgn.get ch = t.dacAsgn.get ch ∨ (t.dacAsgn.get ch = s.dacAsgn.get ch ∧ t'.dacAsgn.get ch = asgn.get ch))

/-- R300 to R303, R157: a tick that keeps the host's duties completes, sets no ILL, and leaves on every channel the outcome of that channel's
one RTSTEP on the state the tick began with: triggered exactly when it fired, and its sample in prev. The shape of a tick is the strict reading of
log entry 17 (DEDUCED): read commands, NOP and CLRSTAT have no place inside it. -/
def Obligations.TickDetectsEachChannelOnce : Prop :=
  ∀ (k : Tick) (s : State), k.wellFormed = true → ∃ t : State, runCommands k.commands s = some t ∧
    t.stat.ill = s.stat.ill ∧ t.inbox = s.inbox ∧
    ∀ (ch : Channel) (x : Code), (ch, x) ∈ k.detect →
      ((t.rt.get ch).triggered = true ↔ Config.hardware.rtHigh.toInt < x.toInt ∧ (s.rt.get ch).armed = true) ∧ (t.rt.get ch).prev = x

/-- R308: a tick none of whose samples rises from RT_HIGH or below to above RT_HIGH on an armed channel leaves every triggered bit 0, and so
does the same tick again, from every state that meets R26's invariant. The shape of a tick is log entry 17's (DEDUCED). -/
def Obligations.QuietTickStaysQuietWhenRepeated : Prop :=
  ∀ (k : Tick) (s : State), k.wellFormed = true → s.armedBelowHigh Config.hardware →
    (∀ (ch : Channel) (x : Code), (ch, x) ∈ k.detect →
      ¬ ((s.rt.get ch).prev.toInt ≤ Config.hardware.rtHigh.toInt ∧ Config.hardware.rtHigh.toInt < x.toInt ∧ (s.rt.get ch).armed = true)) →
    ∃ t u : State, runCommands k.commands s = some t ∧ runCommands k.commands t = some u ∧
      ∀ ch : Channel, (t.rt.get ch).triggered = false ∧ (u.rt.get ch).triggered = false
end

