-- ==== Sys2Proof/Laws/Decode.lean ====
section
/-! SUPPORT. The fields of an encoded bundle, once (R71), and the flag fields of C (R72). -/

namespace Sys2Proof

theorem commandByte_toNat {unit op : Nat} (hu : unit < 4) (ho : op < 16) (ch : Channel) :
    (commandByte unit op ch).toNat = unit * 64 + op * 4 + ch.val := by
  have h := ch.isLt
  unfold commandByte
  rw [BitVec.toNat_ofNat]
  omega

theorem bundleOf_unit {unit op : Nat} (hu : unit < 4) (ho : op < 16) (ch : Channel) (a b : Code) (c : Word) :
    (bundleOf unit op ch a b c).unit.toNat = unit := by
  have h := ch.isLt
  have hc := commandByte_toNat hu ho ch
  simp only [Bundle.unit, bundleOf, BitVec.extractLsb'_toNat, hc, Nat.shiftRight_eq_div_pow]
  omega

theorem bundleOf_op {unit op : Nat} (hu : unit < 4) (ho : op < 16) (ch : Channel) (a b : Code) (c : Word) :
    (bundleOf unit op ch a b c).op.toNat = op := by
  have h := ch.isLt
  have hc := commandByte_toNat hu ho ch
  simp only [Bundle.op, bundleOf, BitVec.extractLsb'_toNat, hc, Nat.shiftRight_eq_div_pow]
  omega

theorem bundleOf_channel {unit op : Nat} (hu : unit < 4) (ho : op < 16) (ch : Channel) (a b : Code) (c : Word) :
    (bundleOf unit op ch a b c).channel = ch := by
  have h := ch.isLt
  have hc := commandByte_toNat hu ho ch
  apply Fin.ext
  show (BitVec.extractLsb' 0 2 (commandByte unit op ch)).toNat = ch.val
  simp only [BitVec.extractLsb'_toNat, hc, Nat.shiftRight_eq_div_pow]
  omega

@[simp] theorem bundleOf_a (unit op : Nat) (ch : Channel) (a b : Code) (c : Word) : (bundleOf unit op ch a b c).a = a := rfl
@[simp] theorem bundleOf_b (unit op : Nat) (ch : Channel) (a b : Code) (c : Word) : (bundleOf unit op ch a b c).b = b := rfl
@[simp] theorem bundleOf_c (unit op : Nat) (ch : Channel) (a b : Code) (c : Word) : (bundleOf unit op ch a b c).c = c := rfl

@[simp] theorem syncedField_zero (synced : Bool) : (syncedField synced)[0] = synced := by
  cases synced <;> rfl

@[simp] theorem shapeField_zero (bank quad : Bool) : (shapeField bank quad)[0] = bank := by
  cases bank <;> cases quad <;> rfl

@[simp] theorem shapeField_one (bank quad : Bool) : (shapeField bank quad)[1] = quad := by
  cases bank <;> cases quad <;> rfl

/-- An operand of 8 bits in the low half of a 16-bit field is read back. -/
@[simp] theorem low_byte_of_setWidth (x : Byte) : (x.setWidth 16).extractLsb' 0 8 = x := by
  apply BitVec.eq_of_toNat_eq
  have h := x.isLt
  simp only [BitVec.extractLsb'_toNat, BitVec.toNat_setWidth, Nat.shiftRight_zero]
  omega

/-- An operand of 16 bits in the low half of a 32-bit field is read back. -/
@[simp] theorem low_half_of_setWidth (x : Code) : (x.setWidth 32).extractLsb' 0 16 = x := by
  apply BitVec.eq_of_toNat_eq
  have h := x.isLt
  simp only [BitVec.extractLsb'_toNat, BitVec.toNat_setWidth, Nat.shiftRight_zero]
  omega

/-- The low half of C is the shape sample, whatever the high half holds (R72). -/
@[simp] theorem low_half_of_append (hi lo : Code) : BitVec.extractLsb' 0 16 (hi ++ lo) = lo := by
  apply BitVec.eq_of_toNat_eq
  have h := lo.isLt
  have h' : (hi ++ lo).toNat = hi.toNat <<< 16 ||| lo.toNat := BitVec.toNat_append hi lo
  rw [BitVec.extractLsb'_toNat, h', ← Nat.shiftLeft_add_eq_or_of_lt h, Nat.shiftLeft_eq]
  omega

/-- The decoder refuses a bundle by the (unit, op) pair it is reserved for, and by nothing else. -/
theorem decode_eq_ok_iff (b : Bundle) (i : Instr) : decode b = .ok i ↔ decodeRow b = some i := by
  unfold decode
  cases decodeRow b <;> simp

end Sys2Proof
end

