-- ==== Sys2Proof/Laws/Operands.lean ====
section
/-! SUPPORT. What each integer operation of Machine/Operands.lean gives, once, for the provers to cite instead of unfolding it. -/

namespace Sys2Proof.Machine

/-! ### Reading -/

theorem zext_bounds {n : Nat} (v : BitVec n) : 0 ≤ zext v ∧ zext v < 2 ^ n := by
  unfold zext
  have h := v.isLt
  constructor
  · omega
  · exact_mod_cast h

theorem zext_code_bounds (v : Code) : 0 ≤ zext v ∧ zext v ≤ 65535 := by
  have h := v.isLt
  unfold zext
  omega

theorem sext_code_bounds (v : Code) : -32768 ≤ sext v ∧ sext v ≤ 32767 := by
  unfold sext
  have h := BitVec.le_toInt v
  have h' := BitVec.toInt_lt (x := v)
  omega

theorem sext_word_bounds (v : Word) : -2147483648 ≤ sext v ∧ sext v ≤ 2147483647 := by
  unfold sext
  have h := BitVec.le_toInt v
  have h' := BitVec.toInt_lt (x := v)
  omega

theorem sext_injective {n : Nat} {v w : BitVec n} (h : sext v = sext w) : v = w := BitVec.toInt_inj.mp h

/-! ### Clamping -/

theorem clamp_ge {v lo hi : Int} (h : lo ≤ hi) : lo ≤ clamp v lo hi := by
  unfold clamp
  omega

theorem clamp_le (v lo hi : Int) : clamp v lo hi ≤ hi := by
  unfold clamp
  omega

theorem clamp_of_mem {v lo hi : Int} (h : lo ≤ v) (h' : v ≤ hi) : clamp v lo hi = v := by
  unfold clamp
  omega

/-! ### Narrowing -/

/-- `wrap32` (R10). -/
theorem toWord_toInt (v : Int) : (toWord v).toInt = v.bmod (2 ^ 32) := BitVec.toInt_ofInt v

/-- `uwrap32` (R10). -/
theorem toWord_toNat (v : Int) : ((toWord v).toNat : Int) = v % 2 ^ 32 := by
  unfold toWord
  rw [BitVec.toNat_ofInt]
  omega

/-- An integer that an i32 holds is not changed by the narrowing. -/
theorem toWord_toInt_of_mem {v : Int} (h : -2147483648 ≤ v) (h' : v ≤ 2147483647) : (toWord v).toInt = v := by
  rw [toWord_toInt, Int.bmod_eq_of_le] <;> omega

/-- An integer that a u32 holds is not changed by the narrowing. -/
theorem toWord_toNat_of_mem {v : Int} (h : 0 ≤ v) (h' : v ≤ 4294967295) : ((toWord v).toNat : Int) = v := by
  rw [toWord_toNat]
  omega

/-- `wrap16` (R10). -/
theorem toCode_toInt (v : Int) : (toCode v).toInt = v.bmod (2 ^ 16) := BitVec.toInt_ofInt v

/-- `uwrap16` (R10). -/
theorem toCode_toNat (v : Int) : ((toCode v).toNat : Int) = v % 2 ^ 16 := by
  unfold toCode
  rw [BitVec.toNat_ofInt]
  omega

theorem sextWord_toInt (v : Code) : (sextWord v).toInt = v.toInt := by
  have h := sext_code_bounds v
  unfold sextWord
  rw [toWord_toInt_of_mem (by omega) (by omega)]
  rfl

theorem zextWord_toNat (v : Code) : (zextWord v).toNat = v.toNat := by
  have h := zext_code_bounds v
  have h' : ((zextWord v).toNat : Int) = zext v := toWord_toNat_of_mem (by omega) (by omega)
  unfold zext at h'
  omega

/-- A curve is read at the clamped integer (R50). -/
theorem curveIndex_toNat (v : Int) : ((curveIndex v).toNat : Int) = clamp v 0 65535 := by
  have h := clamp_ge (v := v) (lo := 0) (hi := 65535) (by omega)
  have h' := clamp_le v 0 65535
  unfold curveIndex
  rw [toCode_toNat]
  show clamp v 0 65535 % 2 ^ 16 = clamp v 0 65535
  omega

/-! ### Flags -/

/-- RTSTEP's arm condition (R141). -/
theorem arms_iff (p : Params) (x : Code) : arms p x = true ↔ x.toInt < p.rtLow.toInt := by
  unfold arms sext
  exact decide_eq_true_iff

/-- RTSTEP's fire condition: above RT_HIGH and armed; the ordered thresholds exclude an arming sample (R141). -/
theorem fires_iff (p : Params) (r : Tracker) (x : Code) :
    fires p r x = true ↔ p.rtHigh.toInt < x.toInt ∧ r.armed = true := by
  have hord := p.rtOrdered
  have harms := arms_iff p x
  unfold fires
  rw [Bool.and_eq_true, Bool.and_eq_true, decide_eq_true_iff, Bool.not_eq_true', Bool.eq_false_iff, ne_eq, harms]
  unfold sext
  constructor
  · rintro ⟨⟨_, h1⟩, h2⟩
    exact ⟨h1, h2⟩
  · rintro ⟨h1, h2⟩
    exact ⟨⟨by omega, h1⟩, h2⟩

/-- A zero divisor is a fire whose sample equals the one before it (R143). -/
theorem zeroDivisor_iff (p : Params) (r : Tracker) (x : Code) :
    zeroDivisor p r x = true ↔ fires p r x = true ∧ x = r.prev := by
  unfold zeroDivisor
  rw [Bool.and_eq_true, decide_eq_true_iff]
  constructor
  · rintro ⟨h, h'⟩
    exact ⟨h, sext_injective (by omega)⟩
  · rintro ⟨h, h'⟩
    exact ⟨h, by rw [h']; omega⟩

end Sys2Proof.Machine
end

