-- ==== Sys2Proof/Laws/State.lean ====
section
/-! SUPPORT. One lemma per field per update of the state, so that no later proof unfolds a record update. -/

namespace Sys2Proof.Machine

variable (s : State)

/-! ### Channel-indexed registers -/

/-- Reading a channel after writing one. -/
theorem PerChannel.get_set {α : Type} (v : PerChannel α) (i j : Channel) (x : α) :
    (v.set i x).get j = if j = i then x else v.get j := by
  fin_cases i <;> fin_cases j <;> rfl

@[simp] theorem PerChannel.get_set_self {α : Type} (v : PerChannel α) (i : Channel) (x : α) : (v.set i x).get i = x := by
  simp [PerChannel.get_set]

@[simp] theorem PerChannel.get_set_of_ne {α : Type} (v : PerChannel α) {i j : Channel} (x : α) (h : j ≠ i) :
    (v.set i x).get j = v.get j := by
  simp [PerChannel.get_set, h]

@[simp] theorem PerChannel.get_all {α : Type} (x : α) (i : Channel) : (PerChannel.all x).get i = x := by
  fin_cases i <;> rfl

@[simp] theorem PerChannel.set_get {α : Type} (v : PerChannel α) (i : Channel) : v.set i (v.get i) = v := by
  fin_cases i <;> rfl

@[simp] theorem PerChannel.set_set {α : Type} (v : PerChannel α) (i : Channel) (x y : α) : (v.set i x).set i y = v.set i y := by
  fin_cases i <;> rfl

/-- Two channel-indexed registers are equal when they read the same on every channel. -/
theorem PerChannel.ext_get {α : Type} {v w : PerChannel α} (h : ∀ i, v.get i = w.get i) : v = w := by
  cases v
  cases w
  have h0 := h 0
  have h1 := h 1
  have h2 := h 2
  have h3 := h 3
  simp only [PerChannel.get] at h0 h1 h2 h3
  simp [h0, h1, h2, h3]

@[simp] theorem reset_tracker_get (ch : Channel) : State.reset.rt.get ch = resetTracker := by
  fin_cases ch <;> rfl

/-! ### setRes0 -/

@[simp] theorem State.setRes0_res0 (v : Word) : (s.setRes0 v).res0 = v := rfl
@[simp] theorem State.setRes0_res1 (v : Word) : (s.setRes0 v).res1 = s.res1 := rfl
@[simp] theorem State.setRes0_stat (v : Word) : (s.setRes0 v).stat = s.stat := rfl
@[simp] theorem State.setRes0_rt (v : Word) : (s.setRes0 v).rt = s.rt := rfl
@[simp] theorem State.setRes0_mix (v : Word) : (s.setRes0 v).mix = s.mix := rfl
@[simp] theorem State.setRes0_dacSine (v : Word) : (s.setRes0 v).dacSine = s.dacSine := rfl
@[simp] theorem State.setRes0_dacAsgn (v : Word) : (s.setRes0 v).dacAsgn = s.dacAsgn := rfl
@[simp] theorem State.setRes0_wsSine (v : Word) : (s.setRes0 v).wsSine = s.wsSine := rfl
@[simp] theorem State.setRes0_wsAsgn (v : Word) : (s.setRes0 v).wsAsgn = s.wsAsgn := rfl
@[simp] theorem State.setRes0_inbox (v : Word) : (s.setRes0 v).inbox = s.inbox := rfl

/-! ### setRes1 -/

@[simp] theorem State.setRes1_res0 (v : Word) : (s.setRes1 v).res0 = s.res0 := rfl
@[simp] theorem State.setRes1_res1 (v : Word) : (s.setRes1 v).res1 = v := rfl
@[simp] theorem State.setRes1_stat (v : Word) : (s.setRes1 v).stat = s.stat := rfl
@[simp] theorem State.setRes1_rt (v : Word) : (s.setRes1 v).rt = s.rt := rfl
@[simp] theorem State.setRes1_mix (v : Word) : (s.setRes1 v).mix = s.mix := rfl
@[simp] theorem State.setRes1_dacSine (v : Word) : (s.setRes1 v).dacSine = s.dacSine := rfl
@[simp] theorem State.setRes1_dacAsgn (v : Word) : (s.setRes1 v).dacAsgn = s.dacAsgn := rfl
@[simp] theorem State.setRes1_wsSine (v : Word) : (s.setRes1 v).wsSine = s.wsSine := rfl
@[simp] theorem State.setRes1_wsAsgn (v : Word) : (s.setRes1 v).wsAsgn = s.wsAsgn := rfl
@[simp] theorem State.setRes1_inbox (v : Word) : (s.setRes1 v).inbox = s.inbox := rfl

/-! ### setTracker -/

@[simp] theorem State.setTracker_res0 (ch : Channel) (r : Tracker) : (s.setTracker ch r).res0 = s.res0 := rfl
@[simp] theorem State.setTracker_res1 (ch : Channel) (r : Tracker) : (s.setTracker ch r).res1 = s.res1 := rfl
@[simp] theorem State.setTracker_stat (ch : Channel) (r : Tracker) : (s.setTracker ch r).stat = s.stat := rfl
@[simp] theorem State.setTracker_rt (ch : Channel) (r : Tracker) : (s.setTracker ch r).rt = s.rt.set ch r := rfl
@[simp] theorem State.setTracker_mix (ch : Channel) (r : Tracker) : (s.setTracker ch r).mix = s.mix := rfl
@[simp] theorem State.setTracker_dacSine (ch : Channel) (r : Tracker) : (s.setTracker ch r).dacSine = s.dacSine := rfl
@[simp] theorem State.setTracker_dacAsgn (ch : Channel) (r : Tracker) : (s.setTracker ch r).dacAsgn = s.dacAsgn := rfl
@[simp] theorem State.setTracker_wsSine (ch : Channel) (r : Tracker) : (s.setTracker ch r).wsSine = s.wsSine := rfl
@[simp] theorem State.setTracker_wsAsgn (ch : Channel) (r : Tracker) : (s.setTracker ch r).wsAsgn = s.wsAsgn := rfl
@[simp] theorem State.setTracker_inbox (ch : Channel) (r : Tracker) : (s.setTracker ch r).inbox = s.inbox := rfl

/-! ### setMixer -/

@[simp] theorem State.setMixer_res0 (m : Mixer) : (s.setMixer m).res0 = s.res0 := rfl
@[simp] theorem State.setMixer_res1 (m : Mixer) : (s.setMixer m).res1 = s.res1 := rfl
@[simp] theorem State.setMixer_stat (m : Mixer) : (s.setMixer m).stat = s.stat := rfl
@[simp] theorem State.setMixer_rt (m : Mixer) : (s.setMixer m).rt = s.rt := rfl
@[simp] theorem State.setMixer_mix (m : Mixer) : (s.setMixer m).mix = m := rfl
@[simp] theorem State.setMixer_dacSine (m : Mixer) : (s.setMixer m).dacSine = s.dacSine := rfl
@[simp] theorem State.setMixer_dacAsgn (m : Mixer) : (s.setMixer m).dacAsgn = s.dacAsgn := rfl
@[simp] theorem State.setMixer_wsSine (m : Mixer) : (s.setMixer m).wsSine = s.wsSine := rfl
@[simp] theorem State.setMixer_wsAsgn (m : Mixer) : (s.setMixer m).wsAsgn = s.wsAsgn := rfl
@[simp] theorem State.setMixer_inbox (m : Mixer) : (s.setMixer m).inbox = s.inbox := rfl

/-! ### setStat -/

@[simp] theorem State.setStat_res0 (st : Stat) : (s.setStat st).res0 = s.res0 := rfl
@[simp] theorem State.setStat_res1 (st : Stat) : (s.setStat st).res1 = s.res1 := rfl
@[simp] theorem State.setStat_stat (st : Stat) : (s.setStat st).stat = st := rfl
@[simp] theorem State.setStat_rt (st : Stat) : (s.setStat st).rt = s.rt := rfl
@[simp] theorem State.setStat_mix (st : Stat) : (s.setStat st).mix = s.mix := rfl
@[simp] theorem State.setStat_dacSine (st : Stat) : (s.setStat st).dacSine = s.dacSine := rfl
@[simp] theorem State.setStat_dacAsgn (st : Stat) : (s.setStat st).dacAsgn = s.dacAsgn := rfl
@[simp] theorem State.setStat_wsSine (st : Stat) : (s.setStat st).wsSine = s.wsSine := rfl
@[simp] theorem State.setStat_wsAsgn (st : Stat) : (s.setStat st).wsAsgn = s.wsAsgn := rfl
@[simp] theorem State.setStat_inbox (st : Stat) : (s.setStat st).inbox = s.inbox := rfl

/-! ### writeDac -/

@[simp] theorem State.writeDac_res0 (ch : Channel) (x y : Word) : (s.writeDac ch x y).res0 = s.res0 := rfl
@[simp] theorem State.writeDac_res1 (ch : Channel) (x y : Word) : (s.writeDac ch x y).res1 = s.res1 := rfl
@[simp] theorem State.writeDac_stat (ch : Channel) (x y : Word) : (s.writeDac ch x y).stat = s.stat := rfl
@[simp] theorem State.writeDac_rt (ch : Channel) (x y : Word) : (s.writeDac ch x y).rt = s.rt := rfl
@[simp] theorem State.writeDac_mix (ch : Channel) (x y : Word) : (s.writeDac ch x y).mix = s.mix := rfl
@[simp] theorem State.writeDac_dacSine (ch : Channel) (x y : Word) : (s.writeDac ch x y).dacSine = s.dacSine.set ch x := rfl
@[simp] theorem State.writeDac_dacAsgn (ch : Channel) (x y : Word) : (s.writeDac ch x y).dacAsgn = s.dacAsgn.set ch y := rfl
@[simp] theorem State.writeDac_wsSine (ch : Channel) (x y : Word) : (s.writeDac ch x y).wsSine = s.wsSine.set ch true := rfl
@[simp] theorem State.writeDac_wsAsgn (ch : Channel) (x y : Word) : (s.writeDac ch x y).wsAsgn = s.wsAsgn.set ch true := rfl
@[simp] theorem State.writeDac_inbox (ch : Channel) (x y : Word) : (s.writeDac ch x y).inbox = s.inbox := rfl

/-! ### issue -/

@[simp] theorem State.issue_res0 (e : HostEvent) : (s.issue e).res0 = s.res0 := rfl
@[simp] theorem State.issue_res1 (e : HostEvent) : (s.issue e).res1 = s.res1 := rfl
@[simp] theorem State.issue_stat (e : HostEvent) : (s.issue e).stat = s.stat := rfl
@[simp] theorem State.issue_rt (e : HostEvent) : (s.issue e).rt = s.rt := rfl
@[simp] theorem State.issue_mix (e : HostEvent) : (s.issue e).mix = s.mix := rfl
@[simp] theorem State.issue_dacSine (e : HostEvent) : (s.issue e).dacSine = s.dacSine := rfl
@[simp] theorem State.issue_dacAsgn (e : HostEvent) : (s.issue e).dacAsgn = s.dacAsgn := rfl
@[simp] theorem State.issue_wsSine (e : HostEvent) : (s.issue e).wsSine = s.wsSine := rfl
@[simp] theorem State.issue_wsAsgn (e : HostEvent) : (s.issue e).wsAsgn = s.wsAsgn := rfl
@[simp] theorem State.issue_inbox (e : HostEvent) : (s.issue e).inbox = e :: s.inbox := rfl

/-! ### accept -/

@[simp] theorem State.accept_res0 (rest : List HostEvent) : (s.accept rest).res0 = s.res0 := rfl
@[simp] theorem State.accept_res1 (rest : List HostEvent) : (s.accept rest).res1 = s.res1 := rfl
@[simp] theorem State.accept_stat (rest : List HostEvent) : (s.accept rest).stat = s.stat := rfl
@[simp] theorem State.accept_rt (rest : List HostEvent) : (s.accept rest).rt = s.rt := rfl
@[simp] theorem State.accept_mix (rest : List HostEvent) : (s.accept rest).mix = s.mix := rfl
@[simp] theorem State.accept_dacSine (rest : List HostEvent) : (s.accept rest).dacSine = s.dacSine := rfl
@[simp] theorem State.accept_dacAsgn (rest : List HostEvent) : (s.accept rest).dacAsgn = s.dacAsgn := rfl
@[simp] theorem State.accept_wsSine (rest : List HostEvent) : (s.accept rest).wsSine = PerChannel.all false := rfl
@[simp] theorem State.accept_wsAsgn (rest : List HostEvent) : (s.accept rest).wsAsgn = PerChannel.all false := rfl
@[simp] theorem State.accept_inbox (rest : List HostEvent) : (s.accept rest).inbox = rest := rfl

/-! ### raiseIllegal -/

@[simp] theorem State.raiseIllegal_res0 : s.raiseIllegal.res0 = s.res0 := rfl
@[simp] theorem State.raiseIllegal_res1 : s.raiseIllegal.res1 = s.res1 := rfl
@[simp] theorem State.raiseIllegal_stat : s.raiseIllegal.stat = { s.stat with ill := true } := rfl
@[simp] theorem State.raiseIllegal_rt : s.raiseIllegal.rt = s.rt := rfl
@[simp] theorem State.raiseIllegal_mix : s.raiseIllegal.mix = s.mix := rfl
@[simp] theorem State.raiseIllegal_dacSine : s.raiseIllegal.dacSine = s.dacSine := rfl
@[simp] theorem State.raiseIllegal_dacAsgn : s.raiseIllegal.dacAsgn = s.dacAsgn := rfl
@[simp] theorem State.raiseIllegal_wsSine : s.raiseIllegal.wsSine = s.wsSine := rfl
@[simp] theorem State.raiseIllegal_wsAsgn : s.raiseIllegal.wsAsgn = s.wsAsgn := rfl
@[simp] theorem State.raiseIllegal_inbox : s.raiseIllegal.inbox = s.inbox := rfl

/-! ### raiseZeroDivisor -/

@[simp] theorem State.raiseZeroDivisor_res0 : s.raiseZeroDivisor.res0 = s.res0 := rfl
@[simp] theorem State.raiseZeroDivisor_res1 : s.raiseZeroDivisor.res1 = s.res1 := rfl
@[simp] theorem State.raiseZeroDivisor_stat : s.raiseZeroDivisor.stat = { s.stat with dz := true } := rfl
@[simp] theorem State.raiseZeroDivisor_rt : s.raiseZeroDivisor.rt = s.rt := rfl
@[simp] theorem State.raiseZeroDivisor_mix : s.raiseZeroDivisor.mix = s.mix := rfl
@[simp] theorem State.raiseZeroDivisor_dacSine : s.raiseZeroDivisor.dacSine = s.dacSine := rfl
@[simp] theorem State.raiseZeroDivisor_dacAsgn : s.raiseZeroDivisor.dacAsgn = s.dacAsgn := rfl
@[simp] theorem State.raiseZeroDivisor_wsSine : s.raiseZeroDivisor.wsSine = s.wsSine := rfl
@[simp] theorem State.raiseZeroDivisor_wsAsgn : s.raiseZeroDivisor.wsAsgn = s.wsAsgn := rfl
@[simp] theorem State.raiseZeroDivisor_inbox : s.raiseZeroDivisor.inbox = s.inbox := rfl

/-! ### clearStat -/

@[simp] theorem State.clearStat_res0 : s.clearStat.res0 = s.res0 := rfl
@[simp] theorem State.clearStat_res1 : s.clearStat.res1 = s.res1 := rfl
@[simp] theorem State.clearStat_stat : s.clearStat.stat = { ill := false, dz := false } := rfl
@[simp] theorem State.clearStat_rt : s.clearStat.rt = s.rt := rfl
@[simp] theorem State.clearStat_mix : s.clearStat.mix = s.mix := rfl
@[simp] theorem State.clearStat_dacSine : s.clearStat.dacSine = s.dacSine := rfl
@[simp] theorem State.clearStat_dacAsgn : s.clearStat.dacAsgn = s.dacAsgn := rfl
@[simp] theorem State.clearStat_wsSine : s.clearStat.wsSine = s.wsSine := rfl
@[simp] theorem State.clearStat_wsAsgn : s.clearStat.wsAsgn = s.wsAsgn := rfl
@[simp] theorem State.clearStat_inbox : s.clearStat.inbox = s.inbox := rfl

end Sys2Proof.Machine
end

