-- ==== Sys2Proof/Laws/Meanings.lean ====
section
/-! SUPPORT. What each operation that several meanings share, or that a meaning's result rests on, can do, once: the provers cite these
instead of unfolding the operation. -/

namespace Sys2Proof.Machine

/-! ### Mapper -/

/-- The tie-break table, row by row, and the pass-through (R122). -/
theorem tieBreak_cases (v0 f : Int) :
    (v0 = 0 ∧ f ≥ 1 ∧ tieBreak v0 f = -2) ∨ (v0 = -1 ∧ f > 1 ∧ tieBreak v0 f = -3) ∨
    (v0 = 0 ∧ f < -1 ∧ tieBreak v0 f = 2) ∨
    (¬ (v0 = 0 ∧ (f ≥ 1 ∨ f < -1)) ∧ ¬ (v0 = -1 ∧ f > 1) ∧ tieBreak v0 f = v0) := by
  unfold tieBreak
  split_ifs <;> omega

/-- The final clamp never gives 0 or -1 (R123, R124). -/
theorem divmulClamp_mem (v : Int) :
    (1 ≤ divmulClamp v ∧ divmulClamp v ≤ 64) ∨ (-64 ≤ divmulClamp v ∧ divmulClamp v ≤ -2) := by
  unfold divmulClamp clamp
  split_ifs <;> omega

/-! ### Reset tracker -/

@[simp] theorem trackerStep_armed (p : Params) (r : Tracker) (x : Code) : (trackerStep p r x).armed = armedAfter p r x := rfl
@[simp] theorem trackerStep_triggered (p : Params) (r : Tracker) (x : Code) : (trackerStep p r x).triggered = fires p r x := rfl
@[simp] theorem trackerStep_subsample (p : Params) (r : Tracker) (x : Code) :
    (trackerStep p r x).subsample = subsampleAfter p r x := rfl
@[simp] theorem trackerStep_prev (p : Params) (r : Tracker) (x : Code) : (trackerStep p r x).prev = x := rfl
@[simp] theorem trackerStep_ticks (p : Params) (r : Tracker) (x : Code) : (trackerStep p r x).ticks = r.ticks := rfl

/-- The armed latch after an RTSTEP, by cases (R141, R142). -/
theorem armedAfter_eq_true_iff (p : Params) (r : Tracker) (x : Code) :
    armedAfter p r x = true ↔
      arms p x = true ∨ (r.armed = true ∧ ¬ (fires p r x = true ∧ p.rtDisarmOnFire = true)) := by
  unfold armedAfter
  split_ifs with h1 h2
  · simp [h1]
  · simp only [Bool.and_eq_true] at h2
    simp [h1, h2]
  · simp only [Bool.and_eq_true] at h2
    simp [h1, h2]

/-- A fire writes the interpolation, or 0 for a zero divisor (R141, R143). -/
theorem subsampleAfter_of_fires (p : Params) (r : Tracker) (x : Code) (h : fires p r x = true) :
    subsampleAfter p r x =
      if x = r.prev then 0#32 else toWord (((p.rtHigh.toInt - r.prev.toInt) * 32).tdiv (x.toInt - r.prev.toInt)) := by
  have hz := zeroDivisor_iff p r x
  unfold subsampleAfter
  rw [if_pos h]
  split_ifs with h1 h2 h2
  · rfl
  · exact absurd (hz.mp h1).2 h2
  · exact absurd (hz.mpr ⟨h, h2⟩) h1
  · rfl

/-- An RTSTEP that does not fire keeps the offset (R25). -/
theorem subsampleAfter_of_not_fires (p : Params) (r : Tracker) (x : Code) (h : fires p r x = false) :
    subsampleAfter p r x = r.subsample := by
  unfold subsampleAfter
  rw [if_neg (by rw [h]; exact Bool.false_ne_true)]

@[simp] theorem rtstep_rt (p : Params) (ch : Channel) (x : Code) (s : State) :
    (rtstep p ch x s).rt = s.rt.set ch (trackerStep p (s.rt.get ch) x) := rfl
@[simp] theorem rtstep_stat (p : Params) (ch : Channel) (x : Code) (s : State) :
    (rtstep p ch x s).stat = { s.stat with dz := s.stat.dz || zeroDivisor p (s.rt.get ch) x } := rfl
@[simp] theorem rtstep_res0 (p : Params) (ch : Channel) (x : Code) (s : State) :
    (rtstep p ch x s).res0 = if fires p (s.rt.get ch) x then 1#32 else 0#32 := rfl
@[simp] theorem rtstep_res1 (p : Params) (ch : Channel) (x : Code) (s : State) :
    (rtstep p ch x s).res1 = subsampleAfter p (s.rt.get ch) x := rfl
@[simp] theorem rtstep_mix (p : Params) (ch : Channel) (x : Code) (s : State) : (rtstep p ch x s).mix = s.mix := rfl
@[simp] theorem rtstep_dacSine (p : Params) (ch : Channel) (x : Code) (s : State) : (rtstep p ch x s).dacSine = s.dacSine := rfl
@[simp] theorem rtstep_dacAsgn (p : Params) (ch : Channel) (x : Code) (s : State) : (rtstep p ch x s).dacAsgn = s.dacAsgn := rfl
@[simp] theorem rtstep_wsSine (p : Params) (ch : Channel) (x : Code) (s : State) : (rtstep p ch x s).wsSine = s.wsSine := rfl
@[simp] theorem rtstep_wsAsgn (p : Params) (ch : Channel) (x : Code) (s : State) : (rtstep p ch x s).wsAsgn = s.wsAsgn := rfl
@[simp] theorem rtstep_inbox (p : Params) (ch : Channel) (x : Code) (s : State) : (rtstep p ch x s).inbox = s.inbox := rfl

@[simp] theorem rtcount_rt (p : Params) (ch : Channel) (s : State) :
    (rtcount p ch s).rt = s.rt.set ch { s.rt.get ch with ticks := ticksAfter p (s.rt.get ch) } := rfl
@[simp] theorem rtcount_stat (p : Params) (ch : Channel) (s : State) : (rtcount p ch s).stat = s.stat := rfl
@[simp] theorem rtcount_mix (p : Params) (ch : Channel) (s : State) : (rtcount p ch s).mix = s.mix := rfl
@[simp] theorem rtcount_inbox (p : Params) (ch : Channel) (s : State) : (rtcount p ch s).inbox = s.inbox := rfl

/-! ### Quantisers -/

/-- The slave-divider term never goes negative and never reaches 7 (R175). -/
theorem slaveTerm_bounds (pot : Code) : 0 ≤ slaveTerm pot ∧ slaveTerm pot ≤ 6 := by
  have h := zext_code_bounds pot
  show 0 ≤ (7 * (65535 - zext pot)).tdiv 65536 ∧ (7 * (65535 - zext pot)).tdiv 65536 ≤ 6
  rw [Int.tdiv_eq_ediv_of_nonneg (by omega)]
  omega

/-! ### Mixer -/

@[simp] theorem mixOut_res0 (ch : Channel) (m : Mixer) (x y : Word) (s : State) : (mixOut ch m x y s).res0 = x := rfl
@[simp] theorem mixOut_res1 (ch : Channel) (m : Mixer) (x y : Word) (s : State) : (mixOut ch m x y s).res1 = y := rfl
@[simp] theorem mixOut_mix (ch : Channel) (m : Mixer) (x y : Word) (s : State) : (mixOut ch m x y s).mix = m := rfl
@[simp] theorem mixOut_stat (ch : Channel) (m : Mixer) (x y : Word) (s : State) : (mixOut ch m x y s).stat = s.stat := rfl
@[simp] theorem mixOut_rt (ch : Channel) (m : Mixer) (x y : Word) (s : State) : (mixOut ch m x y s).rt = s.rt := rfl
@[simp] theorem mixOut_inbox (ch : Channel) (m : Mixer) (x y : Word) (s : State) : (mixOut ch m x y s).inbox = s.inbox := rfl
@[simp] theorem mixOut_dacSine (ch : Channel) (m : Mixer) (x y : Word) (s : State) :
    (mixOut ch m x y s).dacSine = s.dacSine.set ch x := rfl
@[simp] theorem mixOut_dacAsgn (ch : Channel) (m : Mixer) (x y : Word) (s : State) :
    (mixOut ch m x y s).dacAsgn = s.dacAsgn.set ch y := rfl
@[simp] theorem mixOut_wsSine (ch : Channel) (m : Mixer) (x y : Word) (s : State) :
    (mixOut ch m x y s).wsSine = s.wsSine.set ch true := rfl
@[simp] theorem mixOut_wsAsgn (ch : Channel) (m : Mixer) (x y : Word) (s : State) :
    (mixOut ch m x y s).wsAsgn = s.wsAsgn.set ch true := rfl

/-- The normaliser's exact quotient, before the 32-bit wrap (R214); its divisor is positive (R217). -/
theorem quadNorm_toInt (sum gain : Word) :
    (quadNorm sum gain).toInt = ((sum.toInt * 8192).tdiv (max (gain.toNat : Int) 65535) * 8).bmod (2 ^ 32) :=
  toWord_toInt _

end Sys2Proof.Machine
end

