-- ==== Sys2Proof/Laws/PerInstr.lean ====
section
/-! SUPPORT. The family `Encoded`: what each command's encoding is, one lemma per constructor of Instr. -/

namespace Sys2Proof.Laws

/-- The column "match" of R74 and of spec/opcode_table.json: the command byte with ch = 0. -/
def matchByte : Instr → Byte
  | .pitch _ _ _ => 0x00
  | .div _ _ _ => 0x04
  | .divmul _ _ _ => 0x08
  | .phase _ _ _ => 0x0C
  | .level _ _ _ => 0x10
  | .rtstep _ _ => 0x40
  | .rtdisarm _ => 0x44
  | .rtcount _ => 0x48
  | .rtrd _ => 0x4C
  | .rtrdt _ => 0x50
  | .dmdec _ => 0x80
  | .qdiv _ _ => 0x84
  | .pdiv _ => 0x88
  | .nearfs _ => 0x8C
  | .qphase _ => 0x90
  | .syncn _ => 0x94
  | .pgate _ _ _ => 0x98
  | .shapesel _ _ _ _ => 0x9C
  | .mixclr => 0xC0
  | .mixp _ _ _ _ => 0xC4
  | .mixq _ _ _ _ => 0xC8
  | .mixrd => 0xCC
  | .mixrdg => 0xD0
  | .rdstat => 0xF4
  | .clrstat => 0xF8
  | .nop => 0xFC

/-- The command's bundle is not reserved, and its byte under the mask 0xFC is the command's match byte (R74). -/
def Encoded.Statement (i : Instr) : Prop := (encode i).wellFormed = true ∧ (encode i).cmd &&& 0xFC#8 = matchByte i

/-- The mask 0xFC drops the channel from a command byte (R71, R74). -/
theorem commandByte_mask : ∀ (unit : Fin 4) (op : Fin 16) (ch : Channel),
    commandByte unit.val op.val ch &&& 0xFC#8 = commandByte unit.val op.val 0 := by
  decide

/-- Whether a command byte is reserved does not depend on its channel (R76). -/
theorem reservedByte_channel : ∀ (unit : Fin 4) (op : Fin 16) (ch : Channel),
    reservedByte (commandByte unit.val op.val ch) = reservedByte (commandByte unit.val op.val 0) := by
  decide

/-- A command encoded in row (unit, op) of R74, whose match byte is that row's and whose row is not reserved. -/
theorem Encoded.of_row {i : Instr} (unit : Fin 4) (op : Fin 16) (ch : Channel)
    (hcmd : (encode i).cmd = commandByte unit.val op.val ch) (hm : matchByte i = commandByte unit.val op.val 0)
    (hr : reservedByte (commandByte unit.val op.val 0) = false) : Encoded.Statement i := by
  constructor
  · show (!reservedByte (encode i).cmd) = true
    rw [hcmd, reservedByte_channel, hr]
    rfl
  · rw [hcmd, hm, commandByte_mask]

theorem Encoded.pitch (coarse fine : Code) (cv : Word) : Encoded.Statement (.pitch coarse fine cv) :=
  Encoded.of_row 0 0 0 rfl rfl rfl

theorem Encoded.div (pot fine : Code) (cv : Word) : Encoded.Statement (.div pot fine cv) :=
  Encoded.of_row 0 1 0 rfl rfl rfl

theorem Encoded.divmul (pot fine : Code) (cv : Word) : Encoded.Statement (.divmul pot fine cv) :=
  Encoded.of_row 0 2 0 rfl rfl rfl

theorem Encoded.phase (pot fine : Code) (cv : Word) : Encoded.Statement (.phase pot fine cv) :=
  Encoded.of_row 0 3 0 rfl rfl rfl

theorem Encoded.level (pot fine : Code) (cv : Word) : Encoded.Statement (.level pot fine cv) :=
  Encoded.of_row 0 4 0 rfl rfl rfl

theorem Encoded.rtstep (ch : Channel) (signal : Code) : Encoded.Statement (.rtstep ch signal) :=
  Encoded.of_row 1 0 ch rfl rfl rfl

theorem Encoded.rtdisarm (ch : Channel) : Encoded.Statement (.rtdisarm ch) :=
  Encoded.of_row 1 1 ch rfl rfl rfl

theorem Encoded.rtcount (ch : Channel) : Encoded.Statement (.rtcount ch) :=
  Encoded.of_row 1 2 ch rfl rfl rfl

theorem Encoded.rtrd (ch : Channel) : Encoded.Statement (.rtrd ch) :=
  Encoded.of_row 1 3 ch rfl rfl rfl

theorem Encoded.rtrdt (ch : Channel) : Encoded.Statement (.rtrdt ch) :=
  Encoded.of_row 1 4 ch rfl rfl rfl

theorem Encoded.dmdec (v : Code) : Encoded.Statement (.dmdec v) :=
  Encoded.of_row 2 0 0 rfl rfl rfl

theorem Encoded.qdiv (ch : Channel) (levelPot : Code) : Encoded.Statement (.qdiv ch levelPot) :=
  Encoded.of_row 2 1 ch rfl rfl rfl

theorem Encoded.pdiv (phasePot : Code) : Encoded.Statement (.pdiv phasePot) :=
  Encoded.of_row 2 2 0 rfl rfl rfl

theorem Encoded.nearfs (coarse : Code) : Encoded.Statement (.nearfs coarse) :=
  Encoded.of_row 2 3 0 rfl rfl rfl

theorem Encoded.qphase (ch : Channel) : Encoded.Statement (.qphase ch) :=
  Encoded.of_row 2 4 ch rfl rfl rfl

theorem Encoded.syncn (cv : Word) : Encoded.Statement (.syncn cv) :=
  Encoded.of_row 2 5 0 rfl rfl rfl

theorem Encoded.pgate (coarse last : Code) (synced : Bool) : Encoded.Statement (.pgate coarse last synced) :=
  Encoded.of_row 2 6 0 rfl rfl rfl

theorem Encoded.shapesel (selector : Code) (offset : Byte) (bank quad : Bool) : Encoded.Statement (.shapesel selector offset bank quad) :=
  Encoded.of_row 2 7 0 rfl rfl rfl

theorem Encoded.mixclr : Encoded.Statement .mixclr :=
  Encoded.of_row 3 0 0 rfl rfl rfl

theorem Encoded.mixp (ch : Channel) (level sine shape : Code) : Encoded.Statement (.mixp ch level sine shape) :=
  Encoded.of_row 3 1 ch rfl rfl rfl

theorem Encoded.mixq (ch : Channel) (level sine shape : Code) : Encoded.Statement (.mixq ch level sine shape) :=
  Encoded.of_row 3 2 ch rfl rfl rfl

theorem Encoded.mixrd : Encoded.Statement .mixrd :=
  Encoded.of_row 3 3 0 rfl rfl rfl

theorem Encoded.mixrdg : Encoded.Statement .mixrdg :=
  Encoded.of_row 3 4 0 rfl rfl rfl

theorem Encoded.rdstat : Encoded.Statement .rdstat :=
  Encoded.of_row 3 13 0 rfl rfl rfl

theorem Encoded.clrstat : Encoded.Statement .clrstat :=
  Encoded.of_row 3 14 0 rfl rfl rfl

theorem Encoded.nop : Encoded.Statement .nop :=
  Encoded.of_row 3 15 0 rfl rfl rfl

end Sys2Proof.Laws
end

