-- ==== Sys2Proof/Tests/Slice0.lean ====
section
/-! SUPPORT. Tests. Expected results are the spec's own vectors (95_test_vectors.md) or the examples of the rules, none of them the model's
own answer. A vector that depends on an OPEN parameter is taken under TC, the spec's test configuration (R15), through the
parameterised function the meaning calls. -/

namespace Sys2Proof.Tests

open Sys2Proof.Machine

/-! ### The test configuration TC (95_test_vectors.md section 0; sample values, not the hardware's) -/

/-- TC. -/
def tc : Params where
  pitchCurve := fun x => (x.toNat : Int)
  pitchCenter := 32768
  kFinePitch := 4096
  kCvPitch := 20480
  divideCurve := fun x => 1 + Int.tdiv (63 * (x.toNat : Int)) 65535
  divFine := fun f => Int.tdiv f.toInt 16384
  divmulCurve := fun x => Int.tdiv (129 * (x.toNat : Int)) 65536 - 64
  dmFine := fun f => Int.tdiv f.toInt 4096
  linearCurve := fun x => x
  levelOffset := 256
  rtLow := 10000#16
  rtHigh := 20000#16
  rtOrdered := by decide
  rtDisarmOnFire := true
  tickRestart := 0#32
  shapeBaseClassic := 0
  shapeBaseRandom := 4
  shapeTrapezoid := 2
  shapeSquare := 3
  wideShapeCode := fun _ => 0#32

/-- TC with RT_DISARM_ON_FIRE false (section 2.2(c)). -/
def tcHold : Params := { tc with rtDisarmOnFire := false }

/-! ### Helpers -/

/-- A field of the next state, if there is one. -/
def nextField {α : Type} (f : State → α) (r : Result) : Option α :=
  match r with
  | .next t => some (f t)
  | .fault _ => none
  | .refused _ => none

/-- RES0 and RES1 of the next state. -/
def results (r : Result) : Option (Word × Word) := nextField (fun t => (t.res0, t.res1)) r

/-- Reset, but for one channel's armed latch and previous sample. -/
def trackerAt (ch : Channel) (armed : Bool) (prev : Code) : State :=
  State.reset.setTracker ch { resetTracker with armed := armed, prev := prev }

/-- Reset, but for the mixer accumulators. -/
def mixerAt (ss sa g : Word) : State := State.reset.setMixer { ss := ss, sa := sa, g := g }

/-! ### Well-formedness: one reserved byte for each check, and its neighbours -/

/-- A bundle of a command byte alone. -/
def byteBundle (cmd : Byte) : Bundle := { cmd := cmd, a := 0, b := 0, c := 0 }

theorem test_reserved_map : (byteBundle 0x14).wellFormed = false ∧ (byteBundle 0x3F).wellFormed = false := by decide
theorem test_reserved_rt : (byteBundle 0x54).wellFormed = false ∧ (byteBundle 0x57).wellFormed = false := by decide
theorem test_reserved_aux : (byteBundle 0xA0).wellFormed = false ∧ (byteBundle 0xBF).wellFormed = false := by decide
theorem test_reserved_mixsys : (byteBundle 0xD4).wellFormed = false ∧ (byteBundle 0xF3).wellFormed = false := by decide
theorem test_neighbours_not_reserved :
    ([0x13, 0x40, 0x53, 0x80, 0x9F, 0xC0, 0xD3, 0xF4].all fun c => (byteBundle c).wellFormed) = true := by decide

/-- 152 of the 256 command bytes are reserved (R76). -/
theorem test_reserved_count : ((List.range 256).countP fun n => reservedByte (BitVec.ofNat 8 n)) = 152 := by decide +kernel

/-- The host's order of a tick: RTSTEP on every channel, the map phase, then the mixing pass; two RTSTEPs on one channel, a read in the map
phase or RTCOUNT twice on one channel are refused (R300 to R303). -/
theorem test_tick_wellFormed :
    let k : Tick := {
      detect := [(2, 5), (0, 6), (3, 7), (1, 8)]
      map := [.pitch 1 2 3, .rtcount 0, .rtcount 1, .rtdisarm 3]
      quad := true
      mix := PerChannel.all { level := 0, sine := 0, shape := 0 } }
    k.wellFormed = true ∧ { k with detect := [(2, 5), (0, 6), (3, 7), (2, 8)] }.wellFormed = false
      ∧ { k with map := [.rtrd 0] }.wellFormed = false ∧ { k with map := [.rtcount 0, .rtcount 0] }.wellFormed = false := by
  decide

/-! ### Decoding: a word of each row, written out from R71 to R74 as the bundles of 95_test_vectors.md are -/

theorem test_decode_pitch : decodeTableWord 72 0x00000CCD40009C4000 = some (.pitch 40000 16384 3277) := by decide
theorem test_decode_div : decodeTableWord 72 0xFFFF63C00000753004 = some (.div 30000 0 (-40000)) := by decide
theorem test_decode_divmul : decodeTableWord 72 0x0000000020007C0008 = some (.divmul 31744 8192 0) := by decide
theorem test_decode_phase : decodeTableWord 72 0xFFFFFF9C032040000C = some (.phase 16384 800 (-100)) := by decide
theorem test_decode_level : decodeTableWord 72 0x000001F4FC18753010 = some (.level 30000 (-1000) 500) := by decide
theorem test_decode_rtstep : decodeTableWord 72 0x000000007530000041 = some (.rtstep 1 30000) := by decide
theorem test_decode_rtdisarm : decodeTableWord 72 0x000000000000000047 = some (.rtdisarm 3) := by decide
theorem test_decode_rtcount : decodeTableWord 72 0x000000000000000049 = some (.rtcount 1) := by decide
theorem test_decode_rtrd : decodeTableWord 72 0x00000000000000004E = some (.rtrd 2) := by decide
theorem test_decode_rtrdt : decodeTableWord 72 0x000000000000000051 = some (.rtrdt 1) := by decide
theorem test_decode_dmdec : decodeTableWord 72 0x00000000FFFD000080 = some (.dmdec (-3)) := by decide
theorem test_decode_qdiv : decodeTableWord 72 0x000000000000000085 = some (.qdiv 1 0) := by decide
theorem test_decode_pdiv : decodeTableWord 72 0x0000000000009C4088 = some (.pdiv 40000) := by decide
theorem test_decode_nearfs : decodeTableWord 72 0x000000000000FF008C = some (.nearfs 65280) := by decide
theorem test_decode_qphase : decodeTableWord 72 0x000000000000000093 = some (.qphase 3) := by decide
theorem test_decode_syncn : decodeTableWord 72 0xFFFFC0000000000094 = some (.syncn (-16384)) := by decide
theorem test_decode_pgate : decodeTableWord 72 0x0000000375307B9698 = some (.pgate 31638 30000 true) := by decide
theorem test_decode_shapesel : decodeTableWord 72 0x0000000200FF00059C = some (.shapesel 5 255 false true) := by decide
theorem test_decode_mixclr : decodeTableWord 72 0x0000000000000000C0 = some (.mixclr) := by decide
theorem test_decode_mixp : decodeTableWord 72 0xABCD80007FFF0000C5 = some (.mixp 1 0 32767 (-32768)) := by decide
theorem test_decode_mixq : decodeTableWord 72 0x00007FFF7FFFFFFECB = some (.mixq 3 65534 32767 32767) := by decide
theorem test_decode_mixrd : decodeTableWord 72 0x0000000000000000CC = some (.mixrd) := by decide
theorem test_decode_mixrdg : decodeTableWord 72 0x0000000000000000D0 = some (.mixrdg) := by decide
theorem test_decode_rdstat : decodeTableWord 72 0x0000000000000000F4 = some (.rdstat) := by decide
theorem test_decode_clrstat : decodeTableWord 72 0x0000000000000000F8 = some (.clrstat) := by decide
theorem test_decode_nop : decodeTableWord 72 0x0000000700060005FE = some (.nop) := by decide

/-- Every reserved pair is refused by its name (R76), operands or not. -/
theorem test_decode_reserved :
    decode { cmd := 0x57, a := 1, b := 2, c := 3 } = .error (.reserved 1 5) ∧
      decode (byteBundle 0xF3) = .error (.reserved 3 12) := by decide

/-! ### MAP (95_test_vectors.md section 2.1, S2) -/

theorem test_pitch_sum : (pitchValue tc 40000 16384 3277).toInt = 10304 := by decide
theorem test_pitch_wraps_and_truncates :
    (pitchValue tc 65535 0 2).toInt = -32768 ∧ (pitchValue tc 32768 (-1) 0).toInt = 0 ∧ (pitchValue tc 0 (-32768) (-32768)).toInt = 10240 := by
  decide
theorem test_div_clamps :
    (divValue tc 65535 16384 0).toInt = 64 ∧ (divValue tc 0 (-32768) 0).toInt = 1 ∧ (divValue tc 30000 0 (-40000)).toInt = 1
      ∧ (divValue tc 30000 0 100000).toInt = 64 := by decide
theorem test_div_fine : (divValue tc 32768 16383 0).toInt = 32 ∧ (divValue tc 32768 (-16384) 0).toInt = 31 := by decide
theorem test_divmul_tie_break :
    (divmulValue tc 31744 8192 0).toInt = -2 ∧ (divmulValue tc 31000 8192 0).toInt = -3 ∧ (divmulValue tc 32300 4096 0).toInt = -2
      ∧ (divmulValue tc 33600 (-8192) 0).toInt = 2 := by decide
theorem test_divmul_clamp :
    (divmulValue tc 32768 0 0).toInt = 1 ∧ (divmulValue tc 33100 (-4096) 0).toInt = 1 ∧ (divmulValue tc 32300 0 0).toInt = -2
      ∧ (divmulValue tc 0 (-8192) 0).toInt = -64 ∧ (divmulValue tc 32300 (-32768) 0).toInt = -9 := by decide
theorem test_phase :
    (phaseValue tc 16384 800 (-100)).toNat = 49152 ∧ (phaseValue tc 0 0 0).toNat = 65535 ∧ (phaseValue tc 65535 (-7) 0).toNat = 1
      ∧ (phaseValue tc 65535 (-8) 0).toNat = 0 := by decide
theorem test_level :
    (levelValue tc 30000 (-1000) 500).toNat = 30506 ∧ (levelValue tc 0 (-3) (-256)).toNat = 0 ∧ (levelValue tc 65535 0 0).toNat = 65535 := by
  decide

/-! ### RT (section 2.2) -/

theorem test_rtstep_fire :
    let t := rtstep tc 1 30000 (trackerAt 1 true 5000)
    (t.res0, t.res1) = (1, 19) ∧ trackerWord (t.rt.get 1) = 0x00027530 ∧ (rtstep tc 0 20001 (trackerAt 0 true 9999)).res1 = 31 := by
  decide
theorem test_rtstep_hold_fires_again :
    (rtstep tcHold 2 25000 (trackerAt 2 true 25000)).stat.word = 2 ∧ (rtstep tcHold 2 30000 (trackerAt 2 true 25000)).res1 = -32
      ∧ (rtstep tcHold 2 22000 (trackerAt 2 true 30000)).res1 = 40 := by decide
theorem test_rtdisarm : nextField (fun t => (t.rt.get 3).armed) (exec (.rtdisarm 3) (trackerAt 3 true 5000)) = some false := by decide
theorem test_rtcount_restarts :
    let fired := { resetTracker with triggered := true, ticks := 3 }
    let t := rtcount tc 1 (State.reset.setTracker 1 fired)
    (t.res0, t.res1, (t.rt.get 1).ticks) = (3, 1, 0) := by decide
theorem test_rtcount_wraps :
    let t := rtcount tc 0 (State.reset.setTracker 0 { resetTracker with ticks := 0xFFFFFFFF })
    (t.res0, t.res1, (t.rt.get 0).ticks) = (0xFFFFFFFF, 0, 0) := by decide
theorem test_rtrd : results (exec (.rtrd 2) (trackerAt 2 true 5000)) = some (0, 0x00011388) := by decide
theorem test_rtrdt : results (exec (.rtrdt 1) (State.reset.setTracker 1 { resetTracker with ticks := 1 })) = some (1, 0) := by decide

/-! ### AUX (section 2.3) -/

theorem test_dmdec_both_signs :
    results (exec (.dmdec 5) State.reset) = some (1, 5) ∧ results (exec (.dmdec (-3)) State.reset) = some (3, 1) := by decide
theorem test_dmdec_corners :
    results (exec (.dmdec (-1)) State.reset) = some (1, 1) ∧ results (exec (.dmdec (-32768)) State.reset) = some (32768, 1) := by decide
theorem test_qdiv :
    results (exec (.qdiv 1 0) State.reset) = some (8, 0) ∧ results (exec (.qdiv 0 9362) State.reset) = some (6, 0)
      ∧ results (exec (.qdiv 3 65535) State.reset) = some (4, 0) := by decide
theorem test_pdiv :
    results (exec (.pdiv 46810) State.reset) = some (2, 0) ∧ results (exec (.pdiv 56173) State.reset) = some (1, 0)
      ∧ results (exec (.pdiv 0) State.reset) = some (6, 0) := by decide
theorem test_nearfs :
    results (exec (.nearfs 65280) State.reset) = some (1, 0) ∧ results (exec (.nearfs 65279) State.reset) = some (0, 0) := by decide
theorem test_qphase :
    results (exec (.qphase 1) State.reset) = some (49152, 0) ∧ results (exec (.qphase 0) State.reset) = some (0, 0) := by decide
theorem test_syncn :
    results (exec (.syncn 32767) State.reset) = some (9, 1) ∧ results (exec (.syncn (-16384)) State.reset) = some (1, 5)
      ∧ results (exec (.syncn 0) State.reset) = some (1, 1) := by decide
theorem test_syncn_extremes :
    results (exec (.syncn 0x80000000) State.reset) = some (1, 524305) ∧ results (exec (.syncn 4095) State.reset) = some (1, 1) := by decide
theorem test_pgate_locked :
    results (exec (.pgate 31638 30000 true) State.reset) = some (0, 0x00017530)
      ∧ results (exec (.pgate 28361 30000 true) State.reset) = some (1, 0x00006EC9) := by decide
theorem test_pgate_unlocked : results (exec (.pgate 30500 30000 false) State.reset) = some (1, 0x00007724) := by decide
theorem test_shapesel :
    shapeValue tc 3 2 false false = 1 ∧ shapeValue tc 0 2 false true = 3 ∧ shapeValue tc 0 2 true true = 6
      ∧ shapeValue tc 5 255 false false = 0 := by decide

/-! ### MIX (section 2.4, P2) -/

theorem test_norm :
    (quadNorm (-1) 65535).toInt = 0 ∧ (quadNorm 8 65535).toInt = 8 ∧ (quadNorm 32767 0).toInt = 32760 ∧ (quadNorm 65534 131068).toInt = 32768
      ∧ (quadNorm (-131072) 65535).toInt = -131072 := by decide
theorem test_mixclr : nextField (fun t => (t.mix.ss, t.mix.sa, t.mix.g)) (exec .mixclr (mixerAt 1 2 3)) = some (0, 0, 0) := by decide
theorem test_mixp :
    nextField (fun t => (t.dacSine.get 2, t.dacAsgn.get 2, t.mix.g)) (exec (.mixp 2 40000 (-1234) 777) (mixerAt 1 2 3))
      = some (-1234, 777, 40000) := by decide
theorem test_mixq_accumulates :
    nextField (fun t => (t.dacSine.get 0, t.dacAsgn.get 0, t.mix.g)) (exec (.mixq 0 65535 30000 (-20000)) (mixerAt (-4000) 5000 49152))
      = some (14856, -8568, 114687) := by decide
theorem test_mixq_strobe :
    nextField (fun t => (t.wsSine.get 3, t.wsAsgn.get 3, t.wsSine.get 2)) (exec (.mixq 3 0 0 100) State.reset) = some (true, true, false) := by
  decide
theorem test_mixrd : results (exec .mixrd (mixerAt 26000 (-15000) 114687)) = some (26000, -15000) := by decide
theorem test_mixrdg : results (exec .mixrdg (mixerAt 26000 (-15000) 114687)) = some (114687, 0) := by decide

/-! ### SYS and reserved bytes (section 2.5) -/

theorem test_rdstat : results (exec .rdstat State.reset.raiseIllegal.raiseZeroDivisor) = some (3, 0) := by decide
theorem test_clrstat : nextField (fun t => t.stat.word) (exec .clrstat State.reset.raiseIllegal) = some 0 := by decide
theorem test_nop : nextField id (exec .nop (mixerAt 1 2 3)) = some (mixerAt 1 2 3) := by decide
theorem test_reserved_step : nextField id (step (State.reset.withFetchWord 8 0x14)) = some State.reset.raiseIllegal := by decide

/-! ### Steps -/

theorem test_fetch : nextField (fun t => (t.res0, t.inbox)) (step (State.reset.withFetchWord 8 0x91)) = some (49152, []) := by decide
theorem test_reset_input :
    nextField id (step { mixerAt 1 2 3 with inbox := [.reset] }) = some State.reset
      ∧ nextField id (step (mixerAt 1 2 3)) = some (mixerAt 1 2 3) := by decide
theorem test_strobe_ends :
    nextField (fun t => t.wsSine.get 3) (step (State.issue { State.reset with wsSine := PerChannel.all true } (.issue (encode .nop)))) = some false := by
  decide

/-! ### Witnesses: for every obligation with hypotheses, a state and operands that meet all of them, at boundary values -/

/-- RTSTEP ch 1 with every ignored bit set. -/
def noisyRtstep : Bundle := { cmd := 0x41, a := 0xAAAA, b := 0x7530, c := 0xAAAAAAAA }

/-- An armed tracker of the hardware at the invariant's limits: its last sample is RT_HIGH and its offset 31. -/
def limitTracker : Tracker := { resetTracker with armed := true, subsample := 31#32, prev := Config.hardware.rtHigh }

/-- Reset, but for channel 2's tracker at the invariant's limits, and one NOP to come. -/
def limitState : State := (State.reset.setTracker 2 limitTracker).issue (.issue (encode .nop))

theorem limitState_get (ch : Channel) : limitState.rt.get ch = limitTracker ∨ limitState.rt.get ch = resetTracker := by
  fin_cases ch
  · exact .inr rfl
  · exact .inr rfl
  · exact .inl rfl
  · exact .inr rfl

theorem witness_decoded : decode noisyRtstep = .ok (.rtstep 1 30000) := by decide
theorem witness_ignored_bits :
    let b' : Bundle := { cmd := 0x41, a := 0, b := 0x7530, c := 0 }
    noisyRtstep ≠ b' ∧ noisyRtstep.masked (readMask (.rtstep 1 30000)) = b'.masked (readMask (.rtstep 1 30000)) := by decide
theorem witness_step_runs :
    (State.reset.issue (.issue noisyRtstep)).inbox = .issue noisyRtstep :: [] ∧ decode noisyRtstep = .ok (.rtstep 1 30000) := by decide
theorem witness_no_move : State.reset.inbox = [] := by decide
theorem witness_reset_input : (State.reset.issue .reset).inbox = .reset :: [] := by decide
theorem witness_reserved_command :
    (State.reset.issue (.issue (byteBundle 0x14))).inbox = .issue (byteBundle 0x14) :: [] ∧ (byteBundle 0x14).wellFormed = false := by decide
theorem witness_ill_is_sticky :
    ∃ s t : State, s.stat.ill = true ∧ step s = .next t ∧ t.stat.ill = true :=
  ⟨State.reset.raiseIllegal.issue (.issue (encode .nop)), _, rfl, rfl, rfl⟩
theorem witness_clean :
    State.clean (State.reset.issue (.issue (encode .nop))) ∧
      ∀ b : Bundle, HostEvent.issue b ∈ (State.reset.issue (.issue (encode .nop))).inbox → b.wellFormed = true := by
  refine ⟨rfl, fun b h => ?_⟩
  have e : b = encode .nop := by simpa [State.issue, State.reset] using h
  rw [e]
  decide
theorem witness_some_command_completes :
    ∃ (i : Instr) (s t : State), exec i s = .next t ∧ t ≠ s := ⟨.rtcount 0, State.reset, _, rfl, fun h => by
  have h' := congrArg State.rt h
  have h'' := congrArg (fun r => (PerChannel.get r 0).ticks) h'
  change ticksAfter Config.hardware resetTracker = 0#32 at h''
  exact absurd h'' (by decide)⟩
theorem witness_stat_written :
    ∃ s t : State, exec .clrstat s = .next t ∧ t.stat ≠ s.stat := ⟨State.reset.raiseIllegal, _, rfl, by decide⟩
theorem witness_pitch_cv_ends : (0x00008000 : Word).toInt = 32768 ∧ (0xFFFF8000 : Word).toInt = -32768 := by decide
theorem witness_divmul_clauses :
    let v0 := fun (pot fine : Code) => tc.divmulCurve pot + tc.dmFine fine
    (v0 32768 0 = 0 ∧ tc.dmFine 0 = 0) ∧ (v0 33100 (-4096) = 0 ∧ tc.dmFine (-4096) = -1)
      ∧ (v0 32300 0 = -1 ∧ tc.dmFine 0 ≤ 1) ∧ (v0 31744 4096 = -1 ∧ tc.dmFine 4096 = 1) := by decide
theorem witness_linear_affine : tc.LinearAffine := ⟨1, 0, fun x => by show (x.toNat : Int) = 1 * (x.toNat : Int) + 0; omega⟩
theorem witness_phase_unclamped_ends :
    (65536 - ((1 : Code).toNat : Int)) + (0 : Word).toInt + (0 : Code).toInt.tdiv 8 = 65535 ∧
      (65536 - ((65535 : Code).toNat : Int)) + (0 : Word).toInt + (-8 : Code).toInt.tdiv 8 = 0 := by decide
theorem witness_level_unclamped_ends :
    ((65279 : Code).toNat : Int) + (0 : Word).toInt + tc.levelOffset + (0 : Code).toInt.tdiv 4 = 65535 ∧
      ((0 : Code).toNat : Int) + (0 : Word).toInt + tc.levelOffset + (-1024 : Code).toInt.tdiv 4 = 0 := by decide
theorem witness_armed_below_high :
    limitState.armedBelowHigh Config.hardware ∧ (limitState.rt.get 2).armed = true ∧ ∃ t, step limitState = .next t := by
  refine ⟨fun ch h => ?_, rfl, _, rfl⟩
  rcases limitState_get ch with e | e
  · rw [e]
    exact Int.le_refl _
  · rw [e] at h
    exact absurd h (by decide)
theorem witness_tracker_invariant :
    limitState.trackerInvariant Config.hardware ∧ (limitState.rt.get 2).subsample = 31#32 ∧ ∃ t, step limitState = .next t := by
  refine ⟨⟨witness_armed_below_high.1, fun ch => ?_, rfl⟩, rfl, _, rfl⟩
  rcases limitState_get ch with e | e <;> rw [e] <;> decide
theorem witness_fire :
    let s := trackerAt 1 true 20000
    tc.rtDisarmOnFire = true ∧ (∀ ch, (s.rt.get ch).armed = true → (s.rt.get ch).prev.toInt ≤ tc.rtHigh.toInt)
      ∧ ((rtstep tc 1 20001 s).rt.get 1).triggered = true ∧ ((rtstep tc 1 20001 s).rt.get 1).subsample = 0 := by decide
theorem witness_no_sample_below_low : ∀ x ∈ [(10000 : Code), 32767], tc.rtLow.toInt ≤ x.toInt := by
  intro x h
  simp only [List.mem_cons, List.not_mem_nil, or_false] at h
  rcases h with rfl | rfl <;> decide
theorem witness_fires_once :
    (20000 : Code).toInt ≤ tc.rtHigh.toInt ∧ tc.rtDisarmOnFire = true ∧ (9999 : Code).toInt < tc.rtLow.toInt ∧ tc.rtHigh.toInt < (20001 : Code).toInt
      ∧ (∀ x ∈ [(10000 : Code), 32767], tc.rtLow.toInt ≤ x.toInt) ∧ tc.rtLow.toInt ≤ (10000 : Code).toInt :=
  ⟨by decide, by decide, by decide, by decide, witness_no_sample_below_low, by decide⟩
theorem witness_hardware_samples_not_below_low :
    ∀ x : Code, Instr.rtstep 1 x ∈ [.rtstep 1 Config.hardware.rtLow, .rtcount 1, .rtstep 0 5] → Config.hardware.rtLow.toInt ≤ x.toInt := by
  intro x h
  have e : x = Config.hardware.rtLow := by simpa using h
  rw [e]
theorem witness_other_tracker :
    trackerChannel (.rtdisarm 1) ≠ some 0 ∧ ∃ t, exec (.rtdisarm 1) (trackerAt 1 true 5) = .next t := ⟨by decide, _, rfl⟩
theorem witness_trackers_agree :
    let s := trackerAt 1 true 5
    let rt' := s.rt.set 0 { resetTracker with armed := true }
    rt' ≠ s.rt ∧ ∀ ch : Channel, trackerChannel (.rtdisarm 1) = some ch → rt'.get ch = s.rt.get ch := by decide
theorem witness_shape_codes :
    tc.shapeBaseRandom + 3 < 2 ^ 32 ∧ shapeCode tc 0 2 false = tc.shapeTrapezoid ∧ tc.shapeSquare < 2 ^ 32
      ∧ shapeCode { tc with shapeBaseClassic := 2 ^ 32 - 4 } 0 3 false = 2 ^ 32 - 1 := by decide
theorem witness_offsets : (255 : Byte).toNat % 4 = (3 : Byte).toNat % 4 ∧ 511 % 256 = (255 : Byte).toNat := by decide
theorem witness_level_scaled :
    let m : PerChannel MixInput := PerChannel.all { level := 65534, sine := 32767, shape := -32767 }
    ∀ k : Channel, 2 * (m.get k).sine.toInt = (m.get k).level.toNat ∧ 2 * (m.get k).shape.toInt = -((m.get k).level.toNat : Int) := by decide
theorem witness_dac_written :
    ∃ t : State, exec (.mixp 2 1 5 6) State.reset = .next t ∧ (t.dacSine.get 2).toInt = 5 ∧ (t.dacAsgn.get 2).toInt = 6 :=
  ⟨_, rfl, by decide, by decide⟩
theorem witness_strobe :
    nextField (fun t => (t.wsSine.get 2, t.wsSine.get 3)) (commandStep (.mixp 2 1 5 6) State.reset) = some (true, false) := by decide
theorem witness_read_command : (Instr.rtrd 3 = .rdstat ∨ Instr.rtrd 3 = .mixrd ∨ Instr.rtrd 3 = .mixrdg ∨ (∃ ch, Instr.rtrd 3 = .rtrd ch)
    ∨ (∃ ch, Instr.rtrd 3 = .rtrdt ch)) := .inr (.inr (.inr (.inl ⟨3, rfl⟩)))
theorem witness_sync_clauses :
    |(0xFFFF8000 : Word).toInt| ≤ 32768 ∧ (0x00007FFF : Word).toInt = 32767 ∧ (0xFFFF8001 : Word).toInt = -32767
      ∧ (0xFFFF8000 : Word).toInt = -32768 := by decide

/-- A tick whose samples are all RT_HIGH: no channel rises above it. -/
def quietTick : Tick where
  detect := [(2, Config.hardware.rtHigh), (0, Config.hardware.rtHigh), (3, Config.hardware.rtHigh), (1, Config.hardware.rtHigh)]
  map := [.rtcount 0]
  quad := true
  mix := PerChannel.all { level := 0, sine := 0, shape := 0 }

theorem witness_tick : quietTick.wellFormed = true := by decide
theorem witness_quiet_tick :
    limitState.armedBelowHigh Config.hardware ∧ ∀ (ch : Channel) (x : Code), (ch, x) ∈ quietTick.detect →
      ¬ ((limitState.rt.get ch).prev.toInt ≤ Config.hardware.rtHigh.toInt ∧ Config.hardware.rtHigh.toInt < x.toInt
        ∧ (limitState.rt.get ch).armed = true) := by
  refine ⟨witness_armed_below_high.1, fun ch x h h' => ?_⟩
  have e : x = Config.hardware.rtHigh := by
    simp only [quietTick, List.mem_cons, Prod.mk.injEq, List.not_mem_nil, or_false] at h
    rcases h with h | h | h | h <;> exact h.2
  rw [e] at h'
  exact absurd h'.2.1 (Int.lt_irrefl _)

end Sys2Proof.Tests
end

section
/-! How an issued command runs (R20, R77) and which commands write the DAC registers and their strobes (R29). -/

namespace Sys2Proof

/-- Each command's row of R74 and its operand fields (R72) are read back from its bundle, constructor by constructor. -/
theorem decode_encode (i : Instr) : decode (encode i) = .ok i := by
  rw [decode_eq_ok_iff]
  cases i <;>
    simp [encode, decodeRow, decodeMap, decodeRt, decodeAux, decodeMixSys, bundleOf_unit, bundleOf_op, bundleOf_channel]

end Sys2Proof

namespace Sys2Proof.Machine

/-- A step on a bundle the decoder accepts executes the command on the accepted state (R20). -/
theorem step_of_decode_ok {s : State} {b : Bundle} {rest : List HostEvent} {i : Instr}
    (hnext : s.inbox = .issue b :: rest) (hdec : decode b = .ok i) : step s = exec i (s.accept rest) := by
  simp only [step, hnext, hdec]

theorem commandStep_eq_exec (i : Instr) (s : State) : commandStep i s = exec i (s.accept s.inbox) :=
  step_of_decode_ok (State.issue_inbox s _) (decode_encode i)

/-- The channel whose DAC registers a command writes (R29): its own for MIXP and MIXQ, none for every other command. -/
def dacChannel : Instr → Option Channel
  | .mixp ch _ _ _ => some ch
  | .mixq ch _ _ _ => some ch
  | _ => none

theorem dacChannel_eq_some_iff (i : Instr) (ch : Channel) :
    dacChannel i = some ch ↔ ∃ level sine shape, i = .mixp ch level sine shape ∨ i = .mixq ch level sine shape := by
  cases i with
  | mixp k level sine shape => simp [dacChannel]
  | mixq k level sine shape => simp [dacChannel]
  | _ => simp [dacChannel]

/-- What a command does to the DAC registers and their strobes: it leaves all of them, or it writes the pair of one channel and raises both
of that channel's strobes (R29). -/
theorem exec_dac_cases {i : Instr} {s t : State} (h : exec i s = .next t) :
    (dacChannel i = none ∧ t.dacSine = s.dacSine ∧ t.dacAsgn = s.dacAsgn ∧ t.wsSine = s.wsSine ∧ t.wsAsgn = s.wsAsgn) ∨
    ∃ ch sine asgn, dacChannel i = some ch ∧ t.dacSine = s.dacSine.set ch sine ∧ t.dacAsgn = s.dacAsgn.set ch asgn ∧
      t.wsSine = s.wsSine.set ch true ∧ t.wsAsgn = s.wsAsgn.set ch true := by
  cases i with
  | mixp ch level sine shape =>
    cases h
    exact .inr ⟨ch, _, _, rfl, mixOut_dacSine .., mixOut_dacAsgn .., mixOut_wsSine .., mixOut_wsAsgn ..⟩
  | mixq ch level sine shape =>
    cases h
    exact .inr ⟨ch, _, _, rfl, mixOut_dacSine .., mixOut_dacAsgn .., mixOut_wsSine .., mixOut_wsAsgn ..⟩
  | _ =>
    cases h
    exact .inl ⟨rfl, rfl, rfl, rfl, rfl⟩

/-- Settles O51: accepting the command lowers every strobe (log entry 4), and the command then raises those of the channel it writes. -/
theorem strobesMarkTheLastCommandsDacWrites : Obligations.StrobesMarkTheLastCommandsDacWrites := by
  intro i s t ch h
  rw [commandStep_eq_exec] at h
  rw [← dacChannel_eq_some_iff]
  obtain ⟨hnone, -, -, hsine, hasgn⟩ | ⟨k, _, _, hsome, -, -, hsine, hasgn⟩ := exec_dac_cases h
  · simp [hnone, hsine, hasgn]
  · simp [hsome, hsine, hasgn, PerChannel.get_set, eq_comm]

end Sys2Proof.Machine
end

section
/-! What one command and one step can do to each part of the state, once: the lemmas every later proof about a step starts from. -/

namespace Sys2Proof.Machine

/-! ### Commands -/

/-- Every command completes (R262, R265). -/
theorem exec_completes (i : Instr) (s : State) : ∃ t, exec i s = .next t := by
  cases i <;> exact ⟨_, rfl⟩

/-- No command touches the host's moves to come. -/
theorem exec_inbox {i : Instr} {s t : State} (h : exec i s = .next t) : t.inbox = s.inbox := by
  cases i <;> cases h <;> rfl

/-- The trackers after a command: only RTSTEP, RTDISARM and RTCOUNT write one (R157). -/
theorem exec_rt_cases {i : Instr} {s t : State} (h : exec i s = .next t) :
    (∃ ch x, i = .rtstep ch x ∧ t = rtstep Config.hardware ch x s) ∨
    (∃ ch, i = .rtdisarm ch ∧ t = s.setTracker ch { s.rt.get ch with armed := false }) ∨
    (∃ ch, i = .rtcount ch ∧ t = rtcount Config.hardware ch s) ∨
    ((∀ ch x, i ≠ .rtstep ch x) ∧ t.rt = s.rt) := by
  cases i with
  | rtstep ch x =>
    cases h
    exact .inl ⟨ch, x, rfl, rfl⟩
  | rtdisarm ch =>
    cases h
    exact .inr (.inl ⟨ch, rfl, rfl⟩)
  | rtcount ch =>
    cases h
    exact .inr (.inr (.inl ⟨ch, rfl, rfl⟩))
  | _ =>
    cases h
    exact .inr (.inr (.inr ⟨fun _ _ => Instr.noConfusion, rfl⟩))

/-- STAT after a command: only CLRSTAT and RTSTEP write it (R143, R241). -/
theorem exec_stat_cases {i : Instr} {s t : State} (h : exec i s = .next t) :
    (i = .clrstat ∧ t = s.clearStat) ∨
    (∃ ch x, i = .rtstep ch x ∧ t = rtstep Config.hardware ch x s) ∨
    (i ≠ .clrstat ∧ t.stat = s.stat) := by
  cases i with
  | clrstat =>
    cases h
    exact .inl ⟨rfl, rfl⟩
  | rtstep ch x =>
    cases h
    exact .inr (.inl ⟨ch, x, rfl, rfl⟩)
  | _ =>
    cases h
    exact .inr (.inr ⟨Instr.noConfusion, rfl⟩)

/-- The accumulators after a command: only MIXCLR, MIXP and MIXQ write them (R28). -/
theorem exec_mix_cases {i : Instr} {s t : State} (h : exec i s = .next t) :
    t.mix = s.mix ∨ i = .mixclr ∨ ∃ ch level sine shape, i = .mixp ch level sine shape ∨ i = .mixq ch level sine shape := by
  cases i with
  | mixclr => exact .inr (.inl rfl)
  | mixp ch level sine shape => exact .inr (.inr ⟨ch, level, sine, shape, .inl rfl⟩)
  | mixq ch level sine shape => exact .inr (.inr ⟨ch, level, sine, shape, .inr rfl⟩)
  | _ =>
    cases h
    exact .inl rfl

/-! ### Steps -/

theorem step_of_no_move {s : State} (hnext : s.inbox = []) : step s = .next s := by
  simp only [step, hnext, idle]

theorem step_of_reset {s : State} {rest : List HostEvent} (hnext : s.inbox = .reset :: rest) :
    step s = .next { State.reset with inbox := rest } := by
  simp only [step, hnext, hostReset]

theorem step_of_decode_error {s : State} {b : Bundle} {rest : List HostEvent} {e : DecodeError}
    (hnext : s.inbox = .issue b :: rest) (hdec : decode b = .error e) : step s = .next (s.accept rest).raiseIllegal := by
  simp only [step, hnext, hdec, illegalCommand]

/-- Everything a step can do: nothing, the reset, the effect of a reserved byte, or one command (R20, R76, R276, R291). -/
theorem step_cases {s t : State} (h : step s = .next t) :
    (s.inbox = [] ∧ t = s) ∨
    (∃ rest, s.inbox = .reset :: rest ∧ t = { State.reset with inbox := rest }) ∨
    (∃ b rest, s.inbox = .issue b :: rest ∧ t = (s.accept rest).raiseIllegal) ∨
    ∃ b rest i, s.inbox = .issue b :: rest ∧ decode b = .ok i ∧ exec i (s.accept rest) = .next t := by
  match hnext : s.inbox with
  | [] =>
    rw [step_of_no_move hnext] at h
    cases h
    exact .inl ⟨rfl, rfl⟩
  | .reset :: rest =>
    rw [step_of_reset hnext] at h
    cases h
    exact .inr (.inl ⟨rest, rfl, rfl⟩)
  | .issue b :: rest =>
    cases hdec : decode b with
    | error e =>
      rw [step_of_decode_error hnext hdec] at h
      cases h
      exact .inr (.inr (.inl ⟨b, rest, rfl, rfl⟩))
    | ok i =>
      rw [step_of_decode_ok hnext hdec] at h
      exact .inr (.inr (.inr ⟨b, rest, i, rfl, hdec, h⟩))

/-- Settles O6: the state a command runs on is the accepted one. -/
theorem stepRunsTheDecodedCommand : Obligations.StepRunsTheDecodedCommand :=
  fun _ _ _ _ hnext hdec => step_of_decode_ok hnext hdec

/-- Settles O7, by the kind of move the host makes next. -/
theorem everyStepCompletesAndTakesOneMove : Obligations.EveryStepCompletesAndTakesOneMove := by
  refine ⟨fun s e rest hnext => ?_, fun s hnext => step_of_no_move hnext⟩
  cases e with
  | reset => exact ⟨_, step_of_reset hnext, rfl⟩
  | issue b =>
    cases hdec : decode b with
    | error e => exact ⟨_, step_of_decode_error hnext hdec, rfl⟩
    | ok i =>
      obtain ⟨t, ht⟩ := exec_completes i (s.accept rest)
      exact ⟨t, (step_of_decode_ok hnext hdec).trans ht, exec_inbox ht⟩

end Sys2Proof.Machine
end

section
/-! Invariants of one tracker: what the RT commands and the reset keep on a single `Tracker`, every step keeps on every channel
(R26, R147). -/

namespace Sys2Proof.Machine

/-- A property of one tracker that every write of a command to it keeps. -/
structure KeptByTrackerWrites (P : Tracker → Prop) : Prop where
  rtstep : ∀ r x, P r → P (trackerStep Config.hardware r x)
  rtdisarm : ∀ r, P r → P { r with armed := false }
  rtcount : ∀ r, P r → P { r with ticks := ticksAfter Config.hardware r }

theorem PerChannel.forall_get_set {α : Type} {P : α → Prop} {v : PerChannel α} {ch : Channel} {x : α}
    (hv : ∀ k, P (v.get k)) (hx : P x) (k : Channel) : P ((v.set ch x).get k) := by
  rw [PerChannel.get_set]
  split
  · exact hx
  · exact hv k

theorem KeptByTrackerWrites.exec {P : Tracker → Prop} (hP : KeptByTrackerWrites P) {i : Instr} {s t : State}
    (h : exec i s = .next t) (hs : ∀ ch, P (s.rt.get ch)) : ∀ ch, P (t.rt.get ch) := by
  obtain ⟨ch, x, -, rfl⟩ | ⟨ch, -, rfl⟩ | ⟨ch, -, rfl⟩ | ⟨-, hrt⟩ := exec_rt_cases h
  · exact PerChannel.forall_get_set hs (hP.rtstep _ x (hs ch))
  · exact PerChannel.forall_get_set hs (hP.rtdisarm _ (hs ch))
  · exact PerChannel.forall_get_set hs (hP.rtcount _ (hs ch))
  · rwa [hrt]

theorem KeptByTrackerWrites.step {P : Tracker → Prop} (hP : KeptByTrackerWrites P) (hreset : P resetTracker) {s t : State}
    (h : step s = .next t) (hs : ∀ ch, P (s.rt.get ch)) : ∀ ch, P (t.rt.get ch) := by
  obtain ⟨-, rfl⟩ | ⟨rest, -, rfl⟩ | ⟨b, rest, -, rfl⟩ | ⟨b, rest, i, -, -, hexec⟩ := step_cases h
  · exact hs
  · intro ch
    exact (reset_tracker_get ch).symm ▸ hreset
  · exact hs
  · exact hP.exec hexec hs

/-! ### R26: an armed tracker's last sample is not above RT_HIGH -/

/-- `State.armedBelowHigh` on one tracker. -/
def Tracker.armedBelowHigh (p : Params) (r : Tracker) : Prop := r.armed = true → r.prev.toInt ≤ p.rtHigh.toInt

theorem armedBelowHigh_iff (p : Params) (s : State) : s.armedBelowHigh p ↔ ∀ ch, (s.rt.get ch).armedBelowHigh p := Iff.rfl

theorem resetTracker_armedBelowHigh (p : Params) : resetTracker.armedBelowHigh p := nofun

/-- A sample that leaves the channel armed is below RT_LOW or did not fire; above RT_HIGH it would have fired and disarmed (R142). -/
theorem trackerStep_armedBelowHigh {p : Params} (hdisarm : p.rtDisarmOnFire = true) (r : Tracker) (x : Code) :
    (trackerStep p r x).armedBelowHigh p := by
  intro harmed
  rw [trackerStep_armed, armedAfter_eq_true_iff, arms_iff, fires_iff] at harmed
  have hordered := p.rtOrdered
  show x.toInt ≤ p.rtHigh.toInt
  obtain hlow | ⟨hheld, hnofire⟩ := harmed
  · omega
  · by_contra habove
    exact hnofire ⟨⟨by omega, hheld⟩, hdisarm⟩

theorem armedBelowHigh_kept : KeptByTrackerWrites (Tracker.armedBelowHigh Config.hardware) where
  rtstep r x _ := trackerStep_armedBelowHigh rfl r x
  rtdisarm _ _ := nofun
  rtcount _ hr := hr

/-- Settles O24: R26's invariant is one of single trackers. -/
theorem stepKeepsArmedBelowHigh : Obligations.StepKeepsArmedBelowHigh := by
  intro s t hs h
  rw [armedBelowHigh_iff] at hs ⊢
  exact armedBelowHigh_kept.step (resetTracker_armedBelowHigh _) h hs

/-! ### R147: the interpolated offset and its divisor -/

/-- The offset of a rise from RT_HIGH or below to above it lies within the tick. -/
theorem interpolation_mem {prev high x : Int} (hprev : prev ≤ high) (hx : high < x) :
    0 ≤ ((high - prev) * 32).tdiv (x - prev) ∧ ((high - prev) * 32).tdiv (x - prev) ≤ 31 := by
  rw [Int.tdiv_eq_ediv_of_nonneg (by omega)]
  have hlt : ((high - prev) * 32) / (x - prev) < 32 := Int.ediv_lt_of_lt_mul (by omega) (by omega)
  exact ⟨Int.ediv_nonneg (by omega) (by omega), by omega⟩

/-- An armed tracker that meets R26's invariant rises on a fire: the divisor is positive. -/
theorem zeroDivisor_eq_false {p : Params} {r : Tracker} (hr : r.armedBelowHigh p) (x : Code) : zeroDivisor p r x = false := by
  rw [Bool.eq_false_iff, ne_eq, zeroDivisor_iff, fires_iff]
  rintro ⟨⟨habove, harmed⟩, rfl⟩
  have hbelow := hr harmed
  omega

/-- `State.subsamplesInRange` on one tracker. -/
def Tracker.subsampleInRange (r : Tracker) : Prop := 0 ≤ r.subsample.toInt ∧ r.subsample.toInt ≤ 31

theorem trackerStep_subsampleInRange {p : Params} {r : Tracker} (hbelow : r.armedBelowHigh p) (hr : r.subsampleInRange)
    (x : Code) : (trackerStep p r x).subsampleInRange := by
  unfold Tracker.subsampleInRange
  rw [trackerStep_subsample]
  cases hfires : fires p r x with
  | false => rwa [subsampleAfter_of_not_fires p r x hfires]
  | true =>
    obtain ⟨habove, harmed⟩ := (fires_iff p r x).mp hfires
    rw [subsampleAfter_of_fires p r x hfires]
    split
    · decide
    · have hmem := interpolation_mem (hbelow harmed) habove
      rwa [toWord_toInt_of_mem (by omega) (by omega)]

theorem armedBelowHigh_and_subsampleInRange_kept :
    KeptByTrackerWrites (fun r => r.armedBelowHigh Config.hardware ∧ r.subsampleInRange) where
  rtstep r x hr := ⟨armedBelowHigh_kept.rtstep r x hr.1, trackerStep_subsampleInRange hr.1 hr.2 x⟩
  rtdisarm r hr := ⟨armedBelowHigh_kept.rtdisarm r hr.1, hr.2⟩
  rtcount r hr := ⟨armedBelowHigh_kept.rtcount r hr.1, hr.2⟩

/-- From a state that meets R26's invariant no command sets STAT.DZ. -/
theorem exec_noZeroDivisor {i : Instr} {s t : State} (h : exec i s = .next t) (hbelow : s.armedBelowHigh Config.hardware)
    (hs : s.noZeroDivisor) : t.noZeroDivisor := by
  unfold State.noZeroDivisor at *
  obtain ⟨-, rfl⟩ | ⟨ch, x, -, rfl⟩ | ⟨-, hstat⟩ := exec_stat_cases h
  · rfl
  · simp [hs, zeroDivisor_eq_false (hbelow ch)]
  · rwa [hstat]

theorem step_noZeroDivisor {s t : State} (h : step s = .next t) (hbelow : s.armedBelowHigh Config.hardware)
    (hs : s.noZeroDivisor) : t.noZeroDivisor := by
  obtain ⟨-, rfl⟩ | ⟨rest, -, rfl⟩ | ⟨b, rest, -, rfl⟩ | ⟨b, rest, i, -, -, hexec⟩ := step_cases h
  · exact hs
  · rfl
  · exact hs
  · exact exec_noZeroDivisor hexec hbelow hs

theorem trackerInvariant_iff (p : Params) (s : State) :
    s.trackerInvariant p ↔ (∀ ch, (s.rt.get ch).armedBelowHigh p ∧ (s.rt.get ch).subsampleInRange) ∧ s.noZeroDivisor := by
  rw [forall_and, and_assoc]
  rfl

theorem resetTracker_subsampleInRange : resetTracker.subsampleInRange := ⟨by decide, by decide⟩

/-- Settles O25: the tracker part is kept tracker by tracker, and R26's part of it keeps STAT.DZ clear. -/
theorem stepKeepsTrackerInvariant : Obligations.StepKeepsTrackerInvariant := by
  intro s t hs h
  rw [trackerInvariant_iff] at hs ⊢
  obtain ⟨htrackers, hdz⟩ := hs
  have hreset := And.intro (resetTracker_armedBelowHigh Config.hardware) resetTracker_subsampleInRange
  exact ⟨armedBelowHigh_and_subsampleInRange_kept.step hreset h htrackers,
    step_noZeroDivisor h (fun ch => (htrackers ch).1) hdz⟩

/-- Settles O26: every channel holds the reset tracker, which meets both of its properties. -/
theorem resetMeetsTrackerInvariant : Obligations.ResetMeetsTrackerInvariant := by
  intro p
  rw [trackerInvariant_iff]
  refine ⟨fun ch => ?_, rfl⟩
  rw [reset_tracker_get]
  exact ⟨resetTracker_armedBelowHigh p, resetTracker_subsampleInRange⟩

end Sys2Proof.Machine
end

section
/-! Who writes what: STAT, subsample and ticks, the accumulators and the DAC registers; and the output registers, which no command reads. -/

namespace Sys2Proof.Machine

/-- Settles O11: an RTSTEP changes DZ only by a fire with a zero divisor, which leaves subsample 0 (R143). -/
theorem commandsWriteStatOnlyAsStated : Obligations.CommandsWriteStatOnlyAsStated := by
  intro i s t h
  obtain ⟨hi, rfl⟩ | ⟨ch, x, rfl, rfl⟩ | ⟨hi, hstat⟩ := exec_stat_cases h
  · exact .inl ⟨hi, rfl⟩
  · refine .inr ⟨Instr.noConfusion, rfl, ?_⟩
    cases hzero : zeroDivisor Config.hardware (s.rt.get ch) x with
    | false => exact .inl (by simp [hzero])
    | true =>
      obtain ⟨hfires, hprev⟩ := (zeroDivisor_iff _ _ _).mp hzero
      refine .inr ⟨by simp [hzero], ch, x, rfl, by simp [hfires], hprev.symm, ?_⟩
      rw [rtstep_rt, PerChannel.get_set_self, trackerStep_subsample, subsampleAfter_of_fires _ _ _ hfires, if_pos hprev]
      rfl
  · exact .inr ⟨hi, by rw [hstat], .inl (by rw [hstat])⟩

/-- Settles O23: of the three commands that write a tracker, on the channel they address, RTSTEP alone writes subsample, when it fires, and
RTCOUNT alone ticks. -/
theorem subsampleAndTicksHaveOneWriter : Obligations.SubsampleAndTicksHaveOneWriter := by
  intro i s t ch h
  obtain ⟨k, x, rfl, rfl⟩ | ⟨k, rfl, rfl⟩ | ⟨k, rfl, rfl⟩ | ⟨-, hrt⟩ := exec_rt_cases h
  · obtain rfl | hne := eq_or_ne ch k
    · refine ⟨?_, .inl (by simp)⟩
      cases hfires : fires Config.hardware (s.rt.get ch) x with
      | false => exact .inl (by simp [subsampleAfter_of_not_fires _ _ _ hfires])
      | true =>
        obtain ⟨habove, harmed⟩ := (fires_iff _ _ _).mp hfires
        exact .inr ⟨x, rfl, harmed, habove, by simp [hfires]⟩
    · simp [hne]
  · obtain rfl | hne := eq_or_ne ch k
    · simp
    · simp [hne]
  · obtain rfl | hne := eq_or_ne ch k
    · simp
    · simp [hne]
  · simp [hrt]

/-- Settles O50, for the DAC registers by the one channel a MIX command writes. -/
theorem onlyMixCommandsWriteAccumulatorsAndDac : Obligations.OnlyMixCommandsWriteAccumulatorsAndDac := by
  intro i s t ch h
  refine ⟨exec_mix_cases h, ?_⟩
  rw [← dacChannel_eq_some_iff]
  obtain ⟨-, hsine, hasgn, -, -⟩ | ⟨k, _, _, hsome, hsine, hasgn, -, -⟩ := exec_dac_cases h
  · exact .inl ⟨by rw [hsine], by rw [hasgn]⟩
  · obtain rfl | hne := eq_or_ne ch k
    · exact .inr hsome
    · exact .inl ⟨by rw [hsine, PerChannel.get_set_of_ne _ _ hne], by rw [hasgn, PerChannel.get_set_of_ne _ _ hne]⟩

/-! ### The output registers -/

/-- A register at the end of two runs, from `a` to `b` and from `a'` to `b'`: written alike in both, or kept by both. -/
def WrittenAlikeOrKept {α : Type} (a b a' b' : α) : Prop := b' = b ∨ (b = a ∧ b' = a')

theorem WrittenAlikeOrKept.kept {α : Type} (a a' : α) : WrittenAlikeOrKept a a a' a' := .inr ⟨rfl, rfl⟩
theorem WrittenAlikeOrKept.written {α : Type} (a a' b : α) : WrittenAlikeOrKept a b a' b := .inl rfl

theorem WrittenAlikeOrKept.get_set {α : Type} {v w v' w' : PerChannel α}
    (h : ∀ k, WrittenAlikeOrKept (v.get k) (w.get k) (v'.get k) (w'.get k)) (ch : Channel) (x : α) (k : Channel) :
    WrittenAlikeOrKept (v.get k) ((w.set ch x).get k) (v'.get k) ((w'.set ch x).get k) := by
  rw [PerChannel.get_set, PerChannel.get_set]
  split
  · exact .written _ _ x
  · exact h k

/-- Two runs, from `s` to `t` and from `s'` to `t'`, that agree outside the result and DAC registers and have read none of those. -/
structure OutputBlind (s t s' t' : State) : Prop where
  stat : t'.stat = t.stat
  rt : t'.rt = t.rt
  mix : t'.mix = t.mix
  wsSine : t'.wsSine = t.wsSine
  wsAsgn : t'.wsAsgn = t.wsAsgn
  inbox : t'.inbox = t.inbox
  res0 : WrittenAlikeOrKept s.res0 t.res0 s'.res0 t'.res0
  res1 : WrittenAlikeOrKept s.res1 t.res1 s'.res1 t'.res1
  dacSine : ∀ ch, WrittenAlikeOrKept (s.dacSine.get ch) (t.dacSine.get ch) (s'.dacSine.get ch) (t'.dacSine.get ch)
  dacAsgn : ∀ ch, WrittenAlikeOrKept (s.dacAsgn.get ch) (t.dacAsgn.get ch) (s'.dacAsgn.get ch) (t'.dacAsgn.get ch)

/-- The state with other values in the result and DAC registers. -/
def State.withOutputs (s : State) (v w : Word) (sine asgn : PerChannel Word) : State :=
  { s with res0 := v, res1 := w, dacSine := sine, dacAsgn := asgn }

namespace OutputBlind

variable {s t s' t' : State}

theorem start (s : State) (v w : Word) (sine asgn : PerChannel Word) :
    OutputBlind s s (s.withOutputs v w sine asgn) (s.withOutputs v w sine asgn) :=
  ⟨rfl, rfl, rfl, rfl, rfl, rfl, .kept _ _, .kept _ _, fun _ => .kept _ _, fun _ => .kept _ _⟩

theorem setRes0 (h : OutputBlind s t s' t') (v : Word) : OutputBlind s (t.setRes0 v) s' (t'.setRes0 v) :=
  { h with res0 := .written _ _ v }

theorem setRes1 (h : OutputBlind s t s' t') (v : Word) : OutputBlind s (t.setRes1 v) s' (t'.setRes1 v) :=
  { h with res1 := .written _ _ v }

theorem setStat (h : OutputBlind s t s' t') (st : Stat) : OutputBlind s (t.setStat st) s' (t'.setStat st) :=
  { h with stat := rfl }

theorem setMixer (h : OutputBlind s t s' t') (m : Mixer) : OutputBlind s (t.setMixer m) s' (t'.setMixer m) :=
  { h with mix := rfl }

theorem setTracker (h : OutputBlind s t s' t') (ch : Channel) (r : Tracker) :
    OutputBlind s (t.setTracker ch r) s' (t'.setTracker ch r) :=
  { h with rt := congrArg (PerChannel.set · ch r) h.rt }

theorem writeDac (h : OutputBlind s t s' t') (ch : Channel) (x y : Word) :
    OutputBlind s (t.writeDac ch x y) s' (t'.writeDac ch x y) :=
  { h with
    wsSine := congrArg (PerChannel.set · ch true) h.wsSine
    wsAsgn := congrArg (PerChannel.set · ch true) h.wsAsgn
    dacSine := WrittenAlikeOrKept.get_set h.dacSine ch x
    dacAsgn := WrittenAlikeOrKept.get_set h.dacAsgn ch y }

theorem mixOut (h : OutputBlind s t s' t') (ch : Channel) (m : Mixer) (x y : Word) :
    OutputBlind s (mixOut ch m x y t) s' (mixOut ch m x y t') :=
  (((h.setMixer m).writeDac ch x y).setRes0 x).setRes1 y

end OutputBlind

/-- Each command is a chain of register writes whose values it takes from its operands, the trackers, STAT and the accumulators. -/
theorem exec_outputBlind {i : Instr} {s t : State} (h : exec i s = .next t) (v w : Word) (sine asgn : PerChannel Word) :
    ∃ t', exec i (s.withOutputs v w sine asgn) = .next t' ∧ OutputBlind s t (s.withOutputs v w sine asgn) t' := by
  have hstart := OutputBlind.start s v w sine asgn
  cases i with
  | pitch | div | divmul | phase | level | qdiv | pdiv | nearfs | qphase | shapesel =>
    cases h
    exact ⟨_, rfl, hstart.setRes0 _⟩
  | dmdec | syncn | pgate | rtrd | rtrdt | mixrd | mixrdg | rdstat =>
    cases h
    exact ⟨_, rfl, (hstart.setRes0 _).setRes1 _⟩
  | rtstep ch x =>
    cases h
    exact ⟨_, rfl, (((hstart.setStat _).setTracker ch _).setRes0 _).setRes1 _⟩
  | rtdisarm ch =>
    cases h
    exact ⟨_, rfl, hstart.setTracker ch _⟩
  | rtcount ch =>
    cases h
    exact ⟨_, rfl, ((hstart.setTracker ch _).setRes0 _).setRes1 _⟩
  | mixclr =>
    cases h
    exact ⟨_, rfl, hstart.setMixer _⟩
  | mixp ch | mixq ch =>
    cases h
    exact ⟨_, rfl, hstart.mixOut ch _ _ _⟩
  | clrstat =>
    cases h
    exact ⟨_, rfl, hstart.setStat _⟩
  | nop =>
    cases h
    exact ⟨_, rfl, hstart⟩

/-- Settles O56, register by register from the two runs' comparison. -/
theorem outputsAreNeverReadBack : Obligations.OutputsAreNeverReadBack := by
  intro i s t v w sine asgn h
  obtain ⟨t', hexec, hblind⟩ := exec_outputBlind h v w sine asgn
  exact ⟨t', hexec, hblind.stat, hblind.rt, hblind.mix, hblind.wsSine, hblind.wsAsgn, hblind.inbox, hblind.res0, hblind.res1,
    fun ch => ⟨hblind.dacSine ch, hblind.dacAsgn ch⟩⟩

end Sys2Proof.Machine
end

section
/-! The host's tick (R300): which samples it steps a channel with, and that a quiet one stays quiet (R308). -/

namespace Sys2Proof.Machine

/-! ### Sequences of commands -/

theorem commandStep_completes (i : Instr) (s : State) : ∃ t, commandStep i s = .next t := by
  rw [commandStep_eq_exec]
  exact exec_completes i _

theorem runCommands_cons {i : Instr} {s t : State} (h : commandStep i s = .next t) (is : List Instr) :
    runCommands (i :: is) s = runCommands is t := by
  simp only [runCommands, h]

theorem runCommands_completes (is : List Instr) (s : State) : ∃ t, runCommands is s = some t := by
  induction is generalizing s with
  | nil => exact ⟨s, rfl⟩
  | cons i is ih =>
    obtain ⟨t, ht⟩ := commandStep_completes i s
    rw [runCommands_cons ht]
    exact ih t

/-! ### The samples of a tick -/

theorem rtstep_not_mem_mixingPass (quad : Bool) (inputs : PerChannel MixInput) (ch : Channel) (x : Code) :
    Instr.rtstep ch x ∉ mixingPass quad inputs := by
  cases quad <;> simp [mixingPass]

/-- A tick that keeps the host's duties issues RTSTEP in its detect phase only. -/
theorem rtstep_mem_commands_iff {k : Tick} (hk : k.wellFormed = true) (ch : Channel) (x : Code) :
    Instr.rtstep ch x ∈ k.commands ↔ (ch, x) ∈ k.detect := by
  have hmap : Instr.rtstep ch x ∉ k.map := by
    simp only [Tick.wellFormed, Bool.and_eq_true, List.all_eq_true] at hk
    obtain ⟨⟨-, hphase⟩, -⟩ := hk
    exact fun hmem => Bool.false_ne_true (hphase _ hmem)
  simp [Tick.commands, hmap, rtstep_not_mem_mixingPass]

/-- A tick that keeps the host's duties steps every channel with one sample (R301). -/
theorem Tick.existsUnique_sample {k : Tick} (hk : k.wellFormed = true) (ch : Channel) : ∃! x, (ch, x) ∈ k.detect := by
  simp only [Tick.wellFormed, Bool.and_eq_true, decide_eq_true_eq] at hk
  obtain ⟨⟨hperm, -⟩, -⟩ := hk
  have hmem : ch ∈ k.detect.map Prod.fst := hperm.mem_iff.mpr (by fin_cases ch <;> decide)
  have hnodup : (k.detect.map Prod.fst).Nodup := hperm.nodup_iff.mpr (by decide)
  obtain ⟨⟨_, x⟩, hx, rfl⟩ := List.mem_map.mp hmem
  refine ⟨x, hx, fun y hy => ?_⟩
  exact congrArg Prod.snd (List.inj_on_of_nodup_map hnodup hy hx rfl)

/-! ### Quiet channels -/

/-- The sample `x` cannot fire on the tracker: it is not above RT_HIGH, or the channel is not armed. -/
def Tracker.quietAt (x : Code) (r : Tracker) : Prop := Config.hardware.rtHigh.toInt < x.toInt → r.armed = false

theorem Tracker.quietAt.not_fires {x : Code} {r : Tracker} (h : r.quietAt x) : fires Config.hardware r x = false := by
  rw [Bool.eq_false_iff, ne_eq, fires_iff]
  rintro ⟨habove, harmed⟩
  exact Bool.false_ne_true ((h habove).symm.trans harmed)

/-- The sample itself leaves the channel quiet: above RT_HIGH it does not arm. -/
theorem Tracker.quietAt.trackerStep {x : Code} {r : Tracker} (h : r.quietAt x) :
    (trackerStep Config.hardware r x).quietAt x := by
  intro habove
  have hordered := Config.hardware.rtOrdered
  rw [trackerStep_armed, Bool.eq_false_iff, ne_eq, armedAfter_eq_true_iff, arms_iff]
  rintro (hlow | ⟨harmed, -⟩)
  · omega
  · exact Bool.false_ne_true ((h habove).symm.trans harmed)

/-- One command on a channel that is quiet at `x`, which is the sample of any RTSTEP on it: the channel stays quiet, and its triggered bit
stays 0 or is cleared by that RTSTEP. -/
theorem exec_quietAt {i : Instr} {s t : State} {ch : Channel} {x : Code} (h : exec i s = .next t)
    (hsample : ∀ y, i = .rtstep ch y → y = x) (hquiet : (s.rt.get ch).quietAt x) :
    (t.rt.get ch).quietAt x ∧
      (i = .rtstep ch x ∨ (s.rt.get ch).triggered = false → (t.rt.get ch).triggered = false) := by
  obtain ⟨k, y, rfl, rfl⟩ | ⟨k, rfl, rfl⟩ | ⟨k, rfl, rfl⟩ | ⟨hno, hrt⟩ := exec_rt_cases h
  · obtain rfl | hne := eq_or_ne ch k
    · obtain rfl := hsample y rfl
      simp [hquiet.trackerStep, hquiet.not_fires]
    · simp [hne, hne.symm, hquiet]
  · obtain rfl | hne := eq_or_ne ch k
    · simp [Tracker.quietAt]
    · simp [hne, hquiet]
  · obtain rfl | hne := eq_or_ne ch k
    · have hquiet' : Tracker.quietAt x { s.rt.get ch with ticks := ticksAfter Config.hardware (s.rt.get ch) } := hquiet
      simp [hquiet']
    · simp [hne, hquiet]
  · simp [hrt, hno, hquiet]

/-- Commands that step a quiet channel, with its one sample only, leave it quiet and not triggered. -/
theorem runCommands_quietAt {is : List Instr} {s t : State} {ch : Channel} {x : Code} (h : runCommands is s = some t)
    (hsample : ∀ y, Instr.rtstep ch y ∈ is → y = x) (hquiet : (s.rt.get ch).quietAt x)
    (hcleared : Instr.rtstep ch x ∈ is ∨ (s.rt.get ch).triggered = false) :
    (t.rt.get ch).quietAt x ∧ (t.rt.get ch).triggered = false := by
  induction is generalizing s with
  | nil =>
    cases h
    exact ⟨hquiet, by simpa using hcleared⟩
  | cons i is ih =>
    obtain ⟨s', hs'⟩ := commandStep_completes i s
    rw [runCommands_cons hs'] at h
    rw [commandStep_eq_exec] at hs'
    obtain ⟨hquiet', htriggered⟩ := exec_quietAt hs' (fun y hy => hsample y (by simp [hy])) hquiet
    refine ih h (fun y hy => hsample y (List.mem_cons_of_mem i hy)) hquiet' ?_
    rw [List.mem_cons] at hcleared
    obtain (hi | hmem) | hs := hcleared
    · exact .inr (htriggered (.inl hi.symm))
    · exact .inl hmem
    · exact .inr (htriggered (.inr hs))

/-- A tick whose sample on a channel cannot fire leaves the channel quiet at that sample, so that the tick can be repeated. -/
theorem Tick.run_quietAt {k : Tick} (hk : k.wellFormed = true) {s t : State} (h : runCommands k.commands s = some t)
    {ch : Channel} {x : Code} (hx : (ch, x) ∈ k.detect) (hquiet : (s.rt.get ch).quietAt x) :
    (t.rt.get ch).quietAt x ∧ (t.rt.get ch).triggered = false :=
  runCommands_quietAt h
    (fun y hy => (k.existsUnique_sample hk ch).unique ((rtstep_mem_commands_iff hk ch y).mp hy) hx) hquiet
    (.inl ((rtstep_mem_commands_iff hk ch x).mpr hx))

/-- Settles O58: R26's invariant makes every channel quiet at its sample, and the tick keeps it so. -/
theorem quietTickStaysQuietWhenRepeated : Obligations.QuietTickStaysQuietWhenRepeated := by
  intro k s hk hbelow hnorise
  obtain ⟨t, ht⟩ := runCommands_completes k.commands s
  obtain ⟨u, hu⟩ := runCommands_completes k.commands t
  refine ⟨t, u, ht, hu, fun ch => ?_⟩
  obtain ⟨x, hx, -⟩ := k.existsUnique_sample hk ch
  have hquiet : (s.rt.get ch).quietAt x := by
    intro habove
    rw [Bool.eq_false_iff]
    exact fun harmed => hnorise ch x hx ⟨hbelow ch harmed, habove, harmed⟩
  obtain ⟨hquiet', htriggered⟩ := k.run_quietAt hk ht hx hquiet
  exact ⟨htriggered, (k.run_quietAt hk hu hx hquiet').2⟩

end Sys2Proof.Machine
end

section
/-! The curve PHASE and LEVEL share (R52, R137), and the read commands (R57). -/

namespace Sys2Proof.Machine

/-! ### The linear curve -/

/-- An affine LINEAR_CURVE, read at a sum that the index clamp leaves alone, is that affine law of the sum (R50, R137). -/
theorem linearCurve_curveIndex_of_affine {p : Params} {slope offset : Int}
    (haffine : ∀ x : Code, ((p.linearCurve x).toNat : Int) = slope * (x.toNat : Int) + offset) {sum : Int}
    (hlow : 0 ≤ sum) (hhigh : sum ≤ 65535) :
    ((zextWord (p.linearCurve (curveIndex sum))).toNat : Int) = slope * sum + offset := by
  rw [zextWord_toNat, haffine, curveIndex_toNat, clamp_of_mem hlow hhigh]

/-- Settles O21: PHASE and LEVEL each read the one curve at the clamped sum, so the curve's own coefficients serve both. -/
theorem phaseAndLevelShareOneLinearCurve : Obligations.PhaseAndLevelShareOneLinearCurve := by
  rintro p ⟨slope, offset, haffine⟩
  refine ⟨slope, offset, fun pot fine cv hlow hhigh => ?phase, fun pot fine cv hlow hhigh => ?level⟩
  case phase => exact linearCurve_curveIndex_of_affine haffine hlow hhigh
  case level => exact linearCurve_curveIndex_of_affine haffine hlow hhigh

/-! ### Read commands -/

/-- Settles O55: each read command's results come from STAT, the accumulators or a tracker, and it writes none of those. -/
theorem readCommandsChangeOnlyResultsAndRepeat : Obligations.ReadCommandsChangeOnlyResultsAndRepeat := by
  rintro i s (rfl | rfl | rfl | ⟨ch, rfl⟩ | ⟨ch, rfl⟩)
  · exact ⟨s.stat.word, 0#32, rfl, rfl⟩
  · exact ⟨s.mix.ss, s.mix.sa, rfl, rfl⟩
  · exact ⟨s.mix.g, 0#32, rfl, rfl⟩
  · exact ⟨(s.rt.get ch).subsample, trackerWord (s.rt.get ch), rfl, rfl⟩
  · exact ⟨(s.rt.get ch).ticks, 0#32, rfl, rfl⟩

end Sys2Proof.Machine
end

section
/-! The encoding of commands (R71 to R77): a bundle's row of R74, the bits its command reads, and the reserved bytes. -/

namespace Sys2Proof

/-! ### The row of a bundle -/

/-- The three fields of R71 make up the command byte. -/
theorem Bundle.cmd_toNat (b : Bundle) : b.cmd.toNat = b.unit.toNat * 64 + b.op.toNat * 4 + b.channel.val := by
  have hbyte := b.cmd.isLt
  have hchannel : b.channel.val = (b.cmd.extractLsb' 0 2).toNat := rfl
  simp only [Bundle.unit, Bundle.op, hchannel, BitVec.extractLsb'_toNat, Nat.shiftRight_eq_div_pow]
  omega

theorem Bundle.commandByte_fields (b : Bundle) : commandByte b.unit.toNat b.op.toNat b.channel = b.cmd :=
  BitVec.eq_of_toNat_eq ((commandByte_toNat b.unit.isLt b.op.isLt b.channel).trans b.cmd_toNat.symm)

/-- CMD[7:2], what every command reads of its byte, is the row alone (R75). -/
theorem Bundle.cmd_and_row_mask (b : Bundle) : b.cmd &&& 0xFC#8 = commandByte b.unit.toNat b.op.toNat 0 := by
  rw [← b.commandByte_fields]
  exact Laws.commandByte_mask b.unit.toFin b.op.toFin b.channel

/-- Every command reads CMD[7:2]. -/
theorem readMask_cmd_and_row_mask (i : Instr) : (readMask i).cmd &&& 0xFC#8 = 0xFC#8 := by
  cases i <;> simp [readMask]

/-- Bundles that agree on CMD[7:2] are in the same row of R74. -/
theorem Bundle.row_eq_of_masked_eq {b b' m : Bundle} (hm : m.cmd &&& 0xFC#8 = 0xFC#8) (h : b.masked m = b'.masked m) :
    b.unit = b'.unit ∧ b.op = b'.op := by
  have hcmd : b.cmd &&& m.cmd = b'.cmd &&& m.cmd := congrArg Bundle.cmd h
  have hbyte : commandByte b.unit.toNat b.op.toNat 0 = commandByte b'.unit.toNat b'.op.toNat 0 := by
    rw [← cmd_and_row_mask, ← cmd_and_row_mask, ← hm, ← BitVec.and_assoc, ← BitVec.and_assoc, hcmd]
  have hnat := congrArg BitVec.toNat hbyte
  rw [commandByte_toNat b.unit.isLt b.op.isLt, commandByte_toNat b'.unit.isLt b'.op.isLt] at hnat
  have hop := b.op.isLt
  have hop' := b'.op.isLt
  exact ⟨BitVec.eq_of_toNat_eq (by omega), BitVec.eq_of_toNat_eq (by omega)⟩

/-- Which bits are read, and whether the row is reserved, is decided by the row alone. -/
theorem decodeRow_readMask_congr {b b' : Bundle} (hunit : b.unit = b'.unit) (hop : b.op = b'.op) :
    (decodeRow b).map readMask = (decodeRow b').map readMask := by
  simp only [decodeRow, decodeMap, decodeRt, decodeAux, decodeMixSys, hunit, hop]
  split <;> split <;> rfl

/-! ### The bits a command reads -/

/-- A mask of the low `k` bits keeps the remainder modulo `2 ^ k`. -/
theorem toNat_and_low_bits {n k : Nat} (x : BitVec n) (hk : k ≤ n) :
    (x &&& BitVec.ofNat n (2 ^ k - 1)).toNat = x.toNat % 2 ^ k := by
  have hmask : 2 ^ k - 1 < 2 ^ n := lt_of_lt_of_le (Nat.sub_lt (by positivity) one_pos) (Nat.pow_le_pow_right two_pos hk)
  rw [BitVec.toNat_and, BitVec.toNat_ofNat, Nat.mod_eq_of_lt hmask, Nat.and_two_pow_sub_one_eq_mod]

/-- A mask of the low `k` bits is the field of those bits, extended with zeros. -/
theorem and_low_bits {n k : Nat} (x : BitVec n) (hk : k ≤ n) :
    x &&& BitVec.ofNat n (2 ^ k - 1) = (x.extractLsb' 0 k).setWidth n := by
  apply BitVec.eq_of_toNat_eq
  have hlt : x.toNat % 2 ^ k < 2 ^ n := lt_of_lt_of_le (Nat.mod_lt _ (by positivity)) (Nat.pow_le_pow_right two_pos hk)
  rw [toNat_and_low_bits x hk, BitVec.toNat_setWidth, BitVec.extractLsb'_toNat, Nat.shiftRight_zero, Nat.mod_eq_of_lt hlt]

theorem and_low_byte (x : Code) : x &&& 0x00FF#16 = (x.extractLsb' 0 8).setWidth 16 := and_low_bits x (k := 8) (by decide)
theorem and_low_half (x : Word) : x &&& 0x0000FFFF#32 = (x.extractLsb' 0 16).setWidth 32 := and_low_bits x (k := 16) (by decide)

@[simp] theorem and_all_of_code (x : Code) : x &&& 0xFFFF#16 = x := BitVec.and_allOnes
@[simp] theorem and_all_of_word (x : Word) : x &&& 0xFFFFFFFF#32 = x := BitVec.and_allOnes

theorem syncedField_toNat (synced : Bool) : (syncedField synced).toNat = synced.toNat := by
  cases synced <;> rfl

theorem shapeField_toNat (bank quad : Bool) : (shapeField bank quad).toNat = bank.toNat + 2 * quad.toNat := by
  cases bank <;> cases quad <;> rfl

/-- C[0] is the flag PGATE reads (R72). -/
theorem and_synced_flag (x : Word) : x &&& 1#32 = syncedField (x.getLsbD 0) := by
  have hmask : (x &&& 1#32).toNat = x.toNat % 2 ^ 1 := toNat_and_low_bits x (k := 1) (by decide)
  apply BitVec.eq_of_toNat_eq
  rw [hmask, syncedField_toNat, BitVec.getLsbD, Nat.toNat_testBit]
  omega

/-- C[0] and C[1] are the flags SHAPESEL reads (R72). -/
theorem and_shape_flags (x : Word) : x &&& 3#32 = shapeField (x.getLsbD 0) (x.getLsbD 1) := by
  have hmask : (x &&& 3#32).toNat = x.toNat % 2 ^ 2 := toNat_and_low_bits x (k := 2) (by decide)
  apply BitVec.eq_of_toNat_eq
  rw [hmask, shapeField_toNat, BitVec.getLsbD, BitVec.getLsbD, Nat.toNat_testBit, Nat.toNat_testBit]
  omega

/-- A bundle under the mask of a command that reads no channel. -/
theorem Bundle.masked_row {b : Bundle} {unit op : Nat} (hunit : b.unit.toNat = unit) (hop : b.op.toNat = op)
    (ma mb : Code) (mc : Word) :
    b.masked ⟨0xFC#8, ma, mb, mc⟩ = bundleOf unit op 0 (b.a &&& ma) (b.b &&& mb) (b.c &&& mc) := by
  rw [masked, bundleOf, cmd_and_row_mask, hunit, hop]

/-- A bundle under the mask of a command that reads its channel. -/
theorem Bundle.masked_row_channel {b : Bundle} {unit op : Nat} (hunit : b.unit.toNat = unit) (hop : b.op.toNat = op)
    (ma mb : Code) (mc : Word) :
    b.masked ⟨0xFF#8, ma, mb, mc⟩ = bundleOf unit op b.channel (b.a &&& ma) (b.b &&& mb) (b.c &&& mc) := by
  have hcmd : b.cmd &&& 0xFF#8 = b.cmd := BitVec.and_allOnes
  rw [masked, bundleOf, hcmd, ← hunit, ← hop, commandByte_fields]

/-! ### Encoding what was decoded, by the units of R74 -/

theorem encode_of_decodeMap {b : Bundle} {i : Instr} (hunit : b.unit.toNat = 0) (h : decodeMap b = some i) :
    encode i = b.masked (readMask i) := by
  unfold decodeMap at h
  split at h <;> cases h
  all_goals simp [encode, readMask, Bundle.masked_row hunit ‹b.op.toNat = _›]

theorem encode_of_decodeRt {b : Bundle} {i : Instr} (hunit : b.unit.toNat = 1) (h : decodeRt b = some i) :
    encode i = b.masked (readMask i) := by
  unfold decodeRt at h
  split at h <;> cases h
  all_goals simp [encode, readMask, Bundle.masked_row_channel hunit ‹b.op.toNat = _›]

theorem encode_of_decodeAux {b : Bundle} {i : Instr} (hunit : b.unit.toNat = 2) (h : decodeAux b = some i) :
    encode i = b.masked (readMask i) := by
  unfold decodeAux at h
  split at h <;> cases h
  all_goals simp [encode, readMask, Bundle.masked_row hunit ‹b.op.toNat = _›, Bundle.masked_row_channel hunit ‹b.op.toNat = _›,
    and_low_byte, and_synced_flag, and_shape_flags]

theorem encode_of_decodeMixSys {b : Bundle} {i : Instr} (hunit : b.unit.toNat = 3) (h : decodeMixSys b = some i) :
    encode i = b.masked (readMask i) := by
  unfold decodeMixSys at h
  split at h <;> cases h
  all_goals simp [encode, readMask, Bundle.masked_row hunit ‹b.op.toNat = _›, Bundle.masked_row_channel hunit ‹b.op.toNat = _›,
    and_low_half]

/-- A decoded command comes from the unit its byte names (R74). -/
theorem decodeRow_cases {b : Bundle} {i : Instr} (h : decodeRow b = some i) :
    (b.unit.toNat = 0 ∧ decodeMap b = some i) ∨ (b.unit.toNat = 1 ∧ decodeRt b = some i) ∨
    (b.unit.toNat = 2 ∧ decodeAux b = some i) ∨ (b.unit.toNat = 3 ∧ decodeMixSys b = some i) := by
  have hlt := b.unit.isLt
  unfold decodeRow at h
  interval_cases b.unit.toNat
  · exact .inl ⟨rfl, h⟩
  · exact .inr (.inl ⟨rfl, h⟩)
  · exact .inr (.inr (.inl ⟨rfl, h⟩))
  · exact .inr (.inr (.inr ⟨rfl, h⟩))

/-- What a bundle decodes to, encoded again, is the bundle's bits that the command reads. -/
theorem encode_of_decode {b : Bundle} {i : Instr} (h : decode b = .ok i) : encode i = b.masked (readMask i) := by
  obtain ⟨hunit, h⟩ | ⟨hunit, h⟩ | ⟨hunit, h⟩ | ⟨hunit, h⟩ := decodeRow_cases ((decode_eq_ok_iff b i).mp h)
  · exact encode_of_decodeMap hunit h
  · exact encode_of_decodeRt hunit h
  · exact encode_of_decodeAux hunit h
  · exact encode_of_decodeMixSys hunit h

/-- Commands have different encodings, because each is decoded from its own. -/
theorem encode_injective : Function.Injective encode := by
  intro i j h
  have hdecode := decode_encode i
  rw [h, decode_encode j] at hdecode
  exact (Except.ok.inj hdecode).symm

/-- A bundle that agrees with a decoded one on the bits read is in the same row, so it decodes too, and to a command of the same
encoding. -/
theorem decode_of_masked_eq {b b' : Bundle} {i : Instr} (h : decode b = .ok i)
    (heq : b.masked (readMask i) = b'.masked (readMask i)) : decode b' = .ok i := by
  obtain ⟨hunit, hop⟩ := Bundle.row_eq_of_masked_eq (readMask_cmd_and_row_mask i) heq
  have hrow := decodeRow_readMask_congr hunit hop
  rw [(decode_eq_ok_iff b i).mp h, Option.map_some, eq_comm, Option.map_eq_some_iff] at hrow
  obtain ⟨j, hj, hmask⟩ := hrow
  have hdec := (decode_eq_ok_iff b' j).mpr hj
  have hencode : encode i = encode j := by
    rw [encode_of_decode h, encode_of_decode hdec, hmask, heq]
  rw [hdec, encode_injective hencode]

/-! ### The reserved bytes -/

theorem decodeMap_isSome_iff (b : Bundle) : (decodeMap b).isSome ↔ b.op.toNat < 5 := by
  have hlt := b.op.isLt
  unfold decodeMap
  interval_cases b.op.toNat <;> simp

theorem decodeRt_isSome_iff (b : Bundle) : (decodeRt b).isSome ↔ b.op.toNat < 5 := by
  have hlt := b.op.isLt
  unfold decodeRt
  interval_cases b.op.toNat <;> simp

theorem decodeAux_isSome_iff (b : Bundle) : (decodeAux b).isSome ↔ b.op.toNat < 8 := by
  have hlt := b.op.isLt
  unfold decodeAux
  interval_cases b.op.toNat <;> simp

theorem decodeMixSys_isSome_iff (b : Bundle) : (decodeMixSys b).isSome ↔ b.op.toNat < 5 ∨ 13 ≤ b.op.toNat := by
  have hlt := b.op.isLt
  unfold decodeMixSys
  interval_cases b.op.toNat <;> simp

theorem Bundle.wellFormed_iff (b : Bundle) :
    b.wellFormed = true ↔
      ¬ ((0x14 ≤ b.cmd.toNat ∧ b.cmd.toNat ≤ 0x3F) ∨ (0x54 ≤ b.cmd.toNat ∧ b.cmd.toNat ≤ 0x7F) ∨
         (0xA0 ≤ b.cmd.toNat ∧ b.cmd.toNat ≤ 0xBF) ∨ (0xD4 ≤ b.cmd.toNat ∧ b.cmd.toNat ≤ 0xF3)) := by
  simp only [wellFormed, reservedByte, reservedMap, reservedRt, reservedAux, reservedMixSys, Bool.not_eq_true',
    ← Bool.not_eq_true, Bool.or_eq_true, Bool.and_eq_true, decide_eq_true_eq, or_assoc]

/-- The rows of R74 that hold a command are those whose bytes are not reserved. -/
theorem decodeRow_isSome_iff (b : Bundle) : (decodeRow b).isSome ↔ b.wellFormed = true := by
  have hbyte := b.cmd_toNat
  have hchannel := b.channel.isLt
  have hop := b.op.isLt
  have hunit := b.unit.isLt
  rw [b.wellFormed_iff]
  unfold decodeRow
  interval_cases b.unit.toNat
  · exact (decodeMap_isSome_iff b).trans (by omega)
  · exact (decodeRt_isSome_iff b).trans (by omega)
  · exact (decodeAux_isSome_iff b).trans (by omega)
  · exact (decodeMixSys_isSome_iff b).trans (by omega)

theorem exists_decode_ok_iff (b : Bundle) : (∃ i, decode b = .ok i) ↔ b.wellFormed = true := by
  simp only [decode_eq_ok_iff, ← decodeRow_isSome_iff, Option.isSome_iff_exists]

/-- A reserved byte is the decoder's error (R76). -/
theorem exists_decode_error {b : Bundle} (h : b.wellFormed = false) : ∃ e, decode b = .error e := by
  cases hdec : decode b with
  | error e => exact ⟨e, rfl⟩
  | ok i => exact absurd ((exists_decode_ok_iff b).mp ⟨i, hdec⟩) (by simp [h])

/-! ### The obligations -/

/-- Settles O1, by the rows and operand fields of `decode_encode`. -/
theorem decodeOfEncodeIsTheCommand : Obligations.DecodeOfEncodeIsTheCommand := decode_encode

/-- Settles O2, by the four units of R74. -/
theorem encodeOfDecodedKeepsEveryBitRead : Obligations.EncodeOfDecodedKeepsEveryBitRead := fun _ _ => encode_of_decode

/-- Settles O3: both bundles are in one row, which fixes the mask, and the encoder is injective. -/
theorem ignoredBitsHaveNoEffect : Obligations.IgnoredBitsHaveNoEffect := fun _ _ _ => decode_of_masked_eq

/-- Settles O4: a row of R74 holds a command exactly where its bytes are well formed. -/
theorem decoderRefusesExactlyTheReservedBytes : Obligations.DecoderRefusesExactlyTheReservedBytes :=
  fun b => (exists_decode_ok_iff b).trans b.wellFormed_iff

/-- Settles O5: the six words are closed, so the decoder evaluates on them. -/
theorem sampleWordsDecode : Obligations.SampleWordsDecode := by
  unfold Obligations.SampleWordsDecode
  decide

end Sys2Proof
end

section
/-! What a reserved command byte does, and how long STAT.ILL stays (R76, R260). -/

namespace Sys2Proof.Machine

theorem Stat.word_bit_zero (st : Stat) : st.word.getLsbD 0 = st.ill := by
  obtain ⟨ill, dz⟩ := st
  cases ill <;> cases dz <;> rfl

/-- Among the commands only CLRSTAT clears ILL (R241). -/
theorem exec_keeps_ill {i : Instr} {s t : State} (h : exec i s = .next t) (hill : s.stat.ill = true) :
    i = .clrstat ∨ t.stat.ill = true := by
  obtain ⟨hi, -⟩ | ⟨ch, x, -, rfl⟩ | ⟨-, hstat⟩ := exec_stat_cases h
  · exact .inl hi
  · exact .inr (by simp [hill])
  · exact .inr (by rw [hstat, hill])

/-- Settles O10: the decoder's error on a reserved byte raises ILL, and of the later moves only the reset and a CLRSTAT clear it. -/
theorem reservedCommandSetsIllUntilCleared : Obligations.ReservedCommandSetsIllUntilCleared := by
  refine ⟨fun s b rest hnext hreserved => ?raise, fun s => s.stat.word_bit_zero, fun s t hill h => ?sticky⟩
  case raise =>
    obtain ⟨e, hdec⟩ := exists_decode_error hreserved
    exact step_of_decode_error hnext hdec
  case sticky =>
    obtain ⟨-, rfl⟩ | ⟨rest, hnext, -⟩ | ⟨b, rest, -, rfl⟩ | ⟨b, rest, i, hnext, hdec, hexec⟩ := step_cases h
    · exact .inl hill
    · exact .inr (.inl ⟨rest, hnext⟩)
    · exact .inl rfl
    · obtain rfl | hkept := exec_keeps_ill hexec hill
      · exact .inr (.inr ⟨b, rest, hnext, hdec⟩)
      · exact .inl hkept

end Sys2Proof.Machine
end

section
/-! The rows of R74 at every channel value: a bundle decodes to a command exactly when the bits the command reads are its encoding's. -/

namespace Sys2Proof

/-- The decoder, told by the encoder and the read masks alone (R72, R75, R77). -/
theorem decode_eq_ok_iff_masked (b : Bundle) (i : Instr) : decode b = .ok i ↔ b.masked (readMask i) = encode i := by
  constructor
  · intro h
    exact (encode_of_decode h).symm
  · intro h
    exact decode_of_masked_eq (decode_encode i) ((encode_of_decode (decode_encode i)).symm.trans h.symm)

/-- A command that reads all of A, B and C but no channel is decoded from each of the four command bytes of its row (R75). -/
theorem decode_row_any_channel {i : Instr} (unit : Fin 4) (op : Fin 16) (ch : Channel) {a b : Code} {c : Word}
    (hencode : encode i = bundleOf unit.val op.val 0 a b c)
    (hmask : readMask i = ⟨0xFC#8, 0xFFFF#16, 0xFFFF#16, 0xFFFFFFFF#32⟩) :
    decode (bundleOf unit.val op.val ch a b c) = .ok i := by
  have hunit := bundleOf_unit unit.isLt op.isLt ch a b c
  have hop := bundleOf_op unit.isLt op.isLt ch a b c
  rw [decode_eq_ok_iff_masked, hencode, hmask, Bundle.masked_row hunit hop]
  simp

end Sys2Proof
end

section
/-! The MAP unit: the value each of PITCH, DIV, DIVMUL, PHASE and LEVEL leaves in RES0 (40_control_mapper.md), and what DMDEC makes of a
DIVMUL result (R125, R170). -/

namespace Sys2Proof.Machine

/-! ### PITCH -/

/-- PITCH narrows the exact sum by two's-complement wrap (R102). -/
theorem pitchValue_toInt (p : Params) (coarse fine : Code) (cv : Word) :
    (pitchValue p coarse fine cv).toInt = (pitchSum p coarse fine cv).bmod (2 ^ 16) := by
  rw [pitchValue, sextWord_toInt, toCode_toInt]

/-- Settles O13: PITCH writes RES0 alone, with the wrapped sum of `pitchValue_toInt`. -/
theorem pitchWritesTheWrappedSum : Obligations.PitchWritesTheWrappedSum := by
  refine ⟨fun ch a b c => ?encoding, fun coarse fine cv s => ?result⟩
  case encoding => exact decode_row_any_channel 0 0 ch rfl rfl
  case result => exact ⟨_, rfl, pitchValue_toInt Config.hardware coarse fine cv⟩

/-- Division truncated toward zero never enlarges: the quotient times the divisor stays within the dividend. -/
theorem abs_tdiv_mul_le (x : Int) (d : Nat) : |tdiv x d| * d ≤ |x| := by
  have hdiv : x.natAbs / d * d ≤ x.natAbs := Nat.div_mul_le_self _ _
  rw [tdiv, Int.abs_eq_natAbs, Int.abs_eq_natAbs, Int.natAbs_tdiv, Int.natAbs_natCast]
  exact_mod_cast hdiv

/-- A control `x` within ±32768 times a span `k`, divided by `d`: the bound both terms of PITCH share (R103). -/
theorem tdiv_span_bounds {x : Int} (k d : Nat) (hlow : -32768 ≤ x) (hhigh : x ≤ 32768) :
    -(32768 * k : Int) ≤ tdiv (x * k) d * d ∧ tdiv (x * k) d * d ≤ 32768 * k := by
  apply abs_le.mp
  calc |tdiv (x * k) d * d| = |tdiv (x * k) d| * d := by rw [abs_mul, Nat.abs_cast]
    _ ≤ |x * k| := abs_tdiv_mul_le _ d
    _ = |x| * k := by rw [abs_mul, Nat.abs_cast]
    _ ≤ 32768 * k := mul_le_mul_of_nonneg_right (abs_le.mpr ⟨hlow, hhigh⟩) (Int.natCast_nonneg k)

/-- What `fine` alone adds to the sum is the fine term: at 0 both controls contribute nothing (R101). -/
theorem pitchSum_fine_part (p : Params) (coarse fine : Code) :
    pitchSum p coarse fine 0 - pitchSum p coarse 0 0 = tdiv (sext fine * p.kFinePitch) 65536 := by
  simp [pitchSum, sext, tdiv]

/-- Settles O14: 32768 over 65536 is half of K_FINE_PITCH, and over 32768 the whole of K_CV_PITCH. -/
theorem pitchTermsSpanOneAndFiveOctaves : Obligations.PitchTermsSpanOneAndFiveOctaves := by
  intro p coarse fine cv hlow hhigh
  obtain ⟨hfineLow, hfineHigh⟩ := sext_code_bounds fine
  have hfine := tdiv_span_bounds p.kFinePitch 65536 hfineLow (by omega)
  have hcv := tdiv_span_bounds (x := sext cv) p.kCvPitch 32768 hlow hhigh
  push_cast at hfine hcv
  exact ⟨_, _, rfl, (pitchSum_fine_part p coarse fine).symm, by omega, by omega, by omega, by omega⟩

/-! ### DIV -/

/-- DIV's clamp to [1, 64] leaves nothing for the narrowing to change (R112). -/
theorem divValue_toInt (p : Params) (pot fine : Code) (cv : Word) :
    (divValue p pot fine cv).toInt = clamp (p.divideCurve (curveIndex (zext pot + sext cv)) + p.divFine fine) 1 64 :=
  toWord_toInt_of_mem (le_trans (by decide) (clamp_ge (by decide))) (le_trans (clamp_le _ _ _) (by decide))

/-- Settles O15: DIV writes RES0 alone, and its range is the clamp's. -/
theorem divWritesTheClampedDivider : Obligations.DivWritesTheClampedDivider := by
  refine ⟨fun ch a b c => ?encoding, fun pot fine cv s => ?result⟩
  case encoding => exact decode_row_any_channel 0 1 ch rfl rfl
  case result =>
    refine ⟨_, rfl, divValue_toInt Config.hardware pot fine cv, ?_, ?_⟩
    · rw [divValue_toInt]
      exact clamp_ge (by decide)
    · rw [divValue_toInt]
      exact clamp_le _ _ _

/-! ### DIVMUL -/

/-- DIVMUL's value before the tie-break table: the curve at the clamped index plus the correction (R121). -/
def divmulAdjusted (p : Params) (pot fine : Code) (cv : Word) : Int :=
  p.divmulCurve (curveIndex (zext pot + sext cv)) + p.dmFine fine

/-- The narrowing changes no DIVMUL result (R123). -/
theorem divmulValue_toInt (p : Params) (pot fine : Code) (cv : Word) :
    (divmulValue p pot fine cv).toInt = divmulClamp (tieBreak (divmulAdjusted p pot fine cv) (p.dmFine fine)) := by
  have hmem := divmulClamp_mem (tieBreak (divmulAdjusted p pot fine cv) (p.dmFine fine))
  have hvalue : divmulValue p pot fine cv = toWord (divmulClamp (tieBreak (divmulAdjusted p pot fine cv) (p.dmFine fine))) := rfl
  rw [hvalue, toWord_toInt_of_mem (by omega) (by omega)]

/-- No DIVMUL result lies outside the two ranges, for any curve and correction (R124). -/
theorem divmulValue_mem (p : Params) (pot fine : Code) (cv : Word) :
    (-64 ≤ (divmulValue p pot fine cv).toInt ∧ (divmulValue p pot fine cv).toInt ≤ -2) ∨
    (1 ≤ (divmulValue p pot fine cv).toInt ∧ (divmulValue p pot fine cv).toInt ≤ 64) := by
  rw [divmulValue_toInt]
  exact (divmulClamp_mem _).symm

/-- The pairs (0, 0) and (0, -1) are in no row of the table, and the final clamp lifts 0 to 1 (R124). -/
theorem divmulClamp_tieBreak_zero {f : Int} (hf : f = 0 ∨ f = -1) : divmulClamp (tieBreak 0 f) = 1 := by
  obtain rfl | rfl := hf <;> decide

/-- The pairs (-1, f ≤ 1) are in no row of the table, and the final clamp lowers -1 to -2 (R124). -/
theorem divmulClamp_tieBreak_neg_one {f : Int} (hf : f ≤ 1) : divmulClamp (tieBreak (-1) f) = -2 := by
  have hpass : tieBreak (-1) f = -1 := by
    have hcases := tieBreak_cases (-1) f
    omega
  rw [hpass]
  decide

theorem exec_divmul (pot fine : Code) (cv : Word) (s : State) :
    exec (.divmul pot fine cv) s = .next { s with res0 := divmulValue Config.hardware pot fine cv } := rfl

/-- Settles O16: DIVMUL writes RES0 alone, with the code of `divmulValue_toInt`. -/
theorem divmulWritesTheTieBrokenCode : Obligations.DivmulWritesTheTieBrokenCode := by
  refine ⟨fun ch a b c => ?encoding, fun pot fine cv s => ?result⟩
  case encoding => exact decode_row_any_channel 0 2 ch rfl rfl
  case result => exact ⟨_, exec_divmul pot fine cv s, divmulValue_toInt Config.hardware pot fine cv⟩

/-- Settles O17: the range is the final clamp's, and the uncovered pairs are those the table passes through. -/
theorem divmulNeverGivesZeroOrMinusOne : Obligations.DivmulNeverGivesZeroOrMinusOne := by
  refine ⟨fun p pot fine cv => ?_, exec_divmul⟩
  intro f v0 v
  have hmem : (-64 ≤ v ∧ v ≤ -2) ∨ (1 ≤ v ∧ v ≤ 64) := divmulValue_mem p pot fine cv
  have hv : v = divmulClamp (tieBreak v0 f) := divmulValue_toInt p pot fine cv
  refine ⟨hmem, by omega, by omega, fun hzero hf => ?zero, fun hneg hf => ?negOne⟩
  case zero => rw [hv, hzero, divmulClamp_tieBreak_zero hf]
  case negOne => rw [hv, hneg, divmulClamp_tieBreak_neg_one hf]

/-! ### DMDEC of a DIVMUL result -/

/-- The low half of a word keeps an integer that 16 bits hold. -/
theorem low_half_toInt_of_mem {v : Word} (h : -32768 ≤ v.toInt) (h' : v.toInt ≤ 32767) :
    (v.extractLsb' 0 16).toInt = v.toInt := by
  rw [BitVec.toInt_eq_toNat_cond] at h h' ⊢
  rw [BitVec.toInt_eq_toNat_cond, BitVec.extractLsb'_toNat, Nat.shiftRight_zero]
  omega

/-- DMDEC's three readings of a code (R170, R171). -/
theorem decodeCode_cases (v : Int) :
    (v > 1 ∧ decodeCode v = (1, v)) ∨ (v < -1 ∧ decodeCode v = (-v, 1)) ∨ (-1 ≤ v ∧ v ≤ 1 ∧ decodeCode v = (1, 1)) := by
  unfold decodeCode
  split_ifs with hpos hneg
  · exact .inl ⟨hpos, rfl⟩
  · exact .inr (.inl ⟨hneg, rfl⟩)
  · exact .inr (.inr ⟨by omega, by omega, rfl⟩)

theorem exec_dmdec (v : Code) (s : State) :
    exec (.dmdec v) s = .next { s with res0 := toWord (decodeCode (sext v)).1, res1 := toWord (decodeCode (sext v)).2 } := rfl

/-- Settles O18: a DIVMUL result fits in the half word DMDEC reads, and of DMDEC's codes from -1 to 1 it can only be 1. -/
theorem dmdecInterpretsEveryDivmulResult : Obligations.DmdecInterpretsEveryDivmulResult := by
  intro pot fine cv s
  refine ⟨_, _, exec_divmul pot fine cv s, exec_dmdec _ _, ?_⟩
  have hmem := divmulValue_mem Config.hardware pot fine cv
  generalize divmulValue Config.hardware pot fine cv = v at hmem ⊢
  have hone : (toWord 1).toInt = 1 := by decide
  have hlow : sext (v.extractLsb' 0 16) = v.toInt := low_half_toInt_of_mem (by omega) (by omega)
  rw [hlow]
  obtain ⟨hpos, hpair⟩ | ⟨hneg, hpair⟩ | ⟨hge, hle, hpair⟩ := decodeCode_cases v.toInt
  · exact .inl ⟨hpos, by rw [hpair, hone], by rw [hpair, toWord_toInt_of_mem] <;> omega⟩
  · exact .inr (.inl ⟨hneg, by rw [hpair, toWord_toInt_of_mem] <;> omega, by rw [hpair, hone]⟩)
  · exact .inr (.inr ⟨by omega, by rw [hpair, hone], by rw [hpair, hone]⟩)

/-! ### PHASE and LEVEL -/

/-- Settles O19: PHASE writes RES0 alone, and the curve's 16-bit value keeps its number there. -/
theorem phaseWritesTheCurveOfTheInvertedPot : Obligations.PhaseWritesTheCurveOfTheInvertedPot := by
  refine ⟨fun ch a b c => ?encoding, fun pot fine cv s => ?result⟩
  case encoding => exact decode_row_any_channel 0 3 ch rfl rfl
  case result => exact ⟨_, rfl, zextWord_toNat (Config.hardware.linearCurve (phaseIndex pot fine cv))⟩

/-- Settles O20: LEVEL writes RES0 alone, and the curve's 16-bit value keeps its number there. -/
theorem levelWritesTheCurveOfTheOffsetPot : Obligations.LevelWritesTheCurveOfTheOffsetPot := by
  refine ⟨fun ch a b c => ?encoding, fun pot fine cv s => ?result⟩
  case encoding => exact decode_row_any_channel 0 4 ch rfl rfl
  case result => exact ⟨_, rfl, zextWord_toNat (Config.hardware.linearCurve (levelIndex Config.hardware pot fine cv))⟩

end Sys2Proof.Machine
end

section
/-! The RT unit's encodings (R74, R75) and what one RT command does to the block: the whole effect of RTSTEP, RTDISARM, RTCOUNT, RTRD and
RTRDT on their own channel (41_reset_tracker.md). -/

namespace Sys2Proof

/-! ### Rows whose commands read their channel -/

/-- A command that reads its channel is decoded from its own command byte, whatever the operand bits outside its mask hold (R75). -/
theorem decode_row_own_channel {i : Instr} (unit : Fin 4) (op : Fin 16) (ch : Channel) {a b ma mb : Code} {c mc : Word}
    (hmask : readMask i = ⟨0xFF#8, ma, mb, mc⟩)
    (hencode : encode i = bundleOf unit.val op.val ch (a &&& ma) (b &&& mb) (c &&& mc)) :
    decode (bundleOf unit.val op.val ch a b c) = .ok i := by
  have hunit := bundleOf_unit unit.isLt op.isLt ch a b c
  have hop := bundleOf_op unit.isLt op.isLt ch a b c
  rw [decode_eq_ok_iff_masked, hencode, hmask, Bundle.masked_row_channel hunit hop, bundleOf_channel unit.isLt op.isLt]
  simp

/-- A command that reads its channel alone is decoded whatever the operands are. -/
theorem decode_row_channel_only {i : Instr} (unit : Fin 4) (op : Fin 16) (ch : Channel) (a b : Code) (c : Word)
    (hmask : readMask i = ⟨0xFF#8, 0#16, 0#16, 0#32⟩) (hencode : encode i = bundleOf unit.val op.val ch 0 0 0) :
    decode (bundleOf unit.val op.val ch a b c) = .ok i :=
  decode_row_own_channel unit op ch hmask (by simp [hencode])

end Sys2Proof

namespace Sys2Proof.Machine

/-! ### RTSTEP -/

theorem decode_rtstep (ch : Channel) (a b : Code) (c : Word) : decode (bundleOf 1 0 ch a b c) = .ok (.rtstep ch b) :=
  decode_row_own_channel 1 0 ch rfl (by simp [encode])

/-- The offset after an RTSTEP in R141's and R143's terms: the test for a zero divisor is on the divisor itself. -/
theorem subsampleAfter_eq (p : Params) (r : Tracker) (x : Code) :
    subsampleAfter p r x =
      if fires p r x then
        if x.toInt - r.prev.toInt = 0 then 0 else BitVec.ofInt 32 (((p.rtHigh.toInt - r.prev.toInt) * 32).tdiv (x.toInt - r.prev.toInt))
      else r.subsample := by
  cases hfires : fires p r x with
  | false => exact subsampleAfter_of_not_fires p r x hfires
  | true =>
    simp only [subsampleAfter_of_fires p r x hfires, sub_eq_zero, BitVec.toInt_inj]
    rfl

/-- Settles O22: apart from the offset, which `subsampleAfter_eq` gives, RTSTEP's definition is R141's pseudocode. -/
theorem rtstepAdvancesTheTracker : Obligations.RtstepAdvancesTheTracker := by
  refine ⟨decode_rtstep, fun _ _ _ => rfl, rfl, fun p ch signal s => ?effect⟩
  case effect =>
    intro r x arming fired d subsample
    have hsubsample : subsampleAfter p r signal = subsample := subsampleAfter_eq p r signal
    rw [← hsubsample]
    rfl

/-! ### RTDISARM -/

/-- Settles O31: RTDISARM is one write of its channel's tracker. -/
theorem rtdisarmClearsArmedOnly : Obligations.RtdisarmClearsArmedOnly := by
  refine ⟨fun ch a b c => ?encoding, fun ch s => ?effect⟩
  case encoding => exact decode_row_channel_only 1 1 ch a b c rfl rfl
  case effect => rfl

/-! ### RTCOUNT -/

/-- The counter restarts after a fire, and counts modulo 2^32 otherwise (R152). -/
theorem ticksAfter_toNat (p : Params) (r : Tracker) :
    (ticksAfter p r).toNat = if r.triggered then p.tickRestart.toNat else (r.ticks.toNat + 1) % 2 ^ 32 := by
  unfold ticksAfter
  split_ifs with htriggered
  · rfl
  · have hcount : ((toWord (zext r.ticks + 1)).toNat : Int) = ((r.ticks.toNat : Int) + 1) % 2 ^ 32 := toWord_toNat _
    omega

/-- Settles O32: the tracker RTCOUNT writes differs in `ticksAfter` alone, and both results are of the tracker before. -/
theorem rtcountAdvancesTheTickCounter : Obligations.RtcountAdvancesTheTickCounter := by
  refine ⟨fun ch a b c => ?encoding, fun ch s => ?effect⟩
  case encoding => exact decode_row_channel_only 1 2 ch a b c rfl rfl
  case effect => exact ⟨_, rfl, ticksAfter_toNat Config.hardware (s.rt.get ch)⟩

/-! ### RTRD and RTRDT -/

/-- The places of RTRD's three fields (R154). -/
theorem trackerWord_toNat (r : Tracker) :
    (trackerWord r).toNat = (if r.triggered then 131072 else 0) + (if r.armed then 65536 else 0) + r.prev.toNat := by
  have hflags : (0#14 ++ BitVec.ofBool r.triggered ++ BitVec.ofBool r.armed).toNat = 2 * r.triggered.toNat + r.armed.toNat := by
    cases r.triggered <;> cases r.armed <;> rfl
  have hword : (trackerWord r).toNat
      = (0#14 ++ BitVec.ofBool r.triggered ++ BitVec.ofBool r.armed).toNat <<< 16 ||| r.prev.toNat := BitVec.toNat_append ..
  rw [hword, ← Nat.shiftLeft_add_eq_or_of_lt r.prev.isLt, Nat.shiftLeft_eq, hflags, Bool.toNat, Bool.toNat]
  cases r.triggered <;> cases r.armed <;> simp

/-- Settles O33: RTRD writes the results alone, and RES1's fields lie where `trackerWord_toNat` says. -/
theorem rtrdReadsTheTracker : Obligations.RtrdReadsTheTracker := by
  refine ⟨fun ch a b c => ?encoding, fun ch s => ?effect⟩
  case encoding => exact decode_row_channel_only 1 3 ch a b c rfl rfl
  case effect => exact ⟨_, rfl, trackerWord_toNat (s.rt.get ch)⟩

/-- Settles O34: RTRDT writes the results alone. -/
theorem rtrdtReadsTheTickCounter : Obligations.RtrdtReadsTheTickCounter := by
  refine ⟨fun ch a b c => ?encoding, fun ch s => ?effect⟩
  case encoding => exact decode_row_channel_only 1 4 ch a b c rfl rfl
  case effect => rfl

end Sys2Proof.Machine
end

section
/-! One tracker under a sequence of samples or commands: the interpolation of a fire (R147), one fire per fall below RT_LOW (R149, R156), and
the trackers' independence (R157). -/

namespace Sys2Proof.Machine

/-! ### One sample -/

/-- A sample below RT_LOW arms, whatever the tracker held (R141). -/
theorem trackerStep_armed_of_below_low {p : Params} {x : Code} (hlow : x.toInt < p.rtLow.toInt) (r : Tracker) :
    (trackerStep p r x).armed = true := by
  rw [trackerStep_armed, armedAfter_eq_true_iff, arms_iff]
  exact .inl hlow

/-- A fire clears the latch under RT_DISARM_ON_FIRE (R142): its sample does not arm. -/
theorem trackerStep_disarms_of_fires {p : Params} {r : Tracker} {x : Code} (hdisarm : p.rtDisarmOnFire = true)
    (hfires : fires p r x = true) : (trackerStep p r x).armed = false := by
  have hordered := p.rtOrdered
  obtain ⟨habove, -⟩ := (fires_iff p r x).mp hfires
  rw [trackerStep_armed, Bool.eq_false_iff, ne_eq, armedAfter_eq_true_iff, arms_iff]
  rintro (hlow | ⟨-, hnofire⟩)
  · omega
  · exact hnofire ⟨hfires, hdisarm⟩

/-- An unarmed channel stays so on a sample not below RT_LOW. -/
theorem trackerStep_unarmed {p : Params} {r : Tracker} {x : Code} (hr : r.armed = false) (hx : p.rtLow.toInt ≤ x.toInt) :
    (trackerStep p r x).armed = false := by
  rw [trackerStep_armed, Bool.eq_false_iff, ne_eq, armedAfter_eq_true_iff, arms_iff, hr]
  rintro (hlow | ⟨harmed, -⟩)
  · omega
  · exact Bool.false_ne_true harmed

theorem trackerStep_not_triggered_of_unarmed {r : Tracker} (p : Params) (hr : r.armed = false) (x : Code) :
    (trackerStep p r x).triggered = false := by
  rw [trackerStep_triggered, Bool.eq_false_iff, ne_eq, fires_iff, hr]
  exact fun hfires => Bool.false_ne_true hfires.2

theorem trackerStep_not_triggered_of_not_above_high {p : Params} {x : Code} (hx : x.toInt ≤ p.rtHigh.toInt) (r : Tracker) :
    (trackerStep p r x).triggered = false := by
  rw [trackerStep_triggered, Bool.eq_false_iff, ne_eq, fires_iff]
  rintro ⟨habove, -⟩
  omega

/-- A fire from a tracker that meets R26's invariant overwrites the offset with one in range, whatever it was (R147). -/
theorem trackerStep_subsampleInRange_of_fires {p : Params} {r : Tracker} {x : Code} (hbelow : r.armedBelowHigh p)
    (hfires : fires p r x = true) : (trackerStep p r x).subsampleInRange := by
  obtain ⟨habove, harmed⟩ := (fires_iff p r x).mp hfires
  have hprev := hbelow harmed
  have hmem := interpolation_mem hprev habove
  have hne : x ≠ r.prev := by
    rintro rfl
    omega
  unfold Tracker.subsampleInRange
  rwa [trackerStep_subsample, subsampleAfter_of_fires p r x hfires, if_neg hne, toWord_toInt_of_mem (by omega) (by omega)]

/-- Settles O27: R26's invariant puts the previous sample of a fire at or below RT_HIGH, so the divisor is positive. -/
theorem fireInterpolatesWithinOneTick : Obligations.FireInterpolatesWithinOneTick := by
  intro p ch x s _ hbelow htriggered
  rw [rtstep_rt, PerChannel.get_set_self] at htriggered ⊢
  obtain ⟨habove, harmed⟩ := (fires_iff p _ x).mp htriggered
  obtain ⟨hzero, h31⟩ := trackerStep_subsampleInRange_of_fires (hbelow ch) htriggered
  refine ⟨hbelow ch harmed, habove, hzero, h31, ?_⟩
  rw [rtstep_stat, zeroDivisor_eq_false (hbelow ch), Bool.or_false]

/-! ### A sequence of samples on one channel -/

/-- RTSTEPs on one channel fold its own tracker over their samples. -/
theorem afterSamples_get (p : Params) (ch : Channel) (xs : List Code) (s : State) :
    (afterSamples p ch xs s).rt.get ch = xs.foldl (trackerStep p) (s.rt.get ch) := by
  induction xs generalizing s with
  | nil => rfl
  | cons x xs ih => rw [afterSamples, ih, rtstep_rt, PerChannel.get_set_self, List.foldl_cons]

theorem foldl_trackerStep_unarmed {p : Params} {r : Tracker} {xs : List Code} (hr : r.armed = false)
    (hxs : ∀ x ∈ xs, p.rtLow.toInt ≤ x.toInt) : (xs.foldl (trackerStep p) r).armed = false := by
  induction xs generalizing r with
  | nil => exact hr
  | cons x xs ih =>
    rw [List.forall_mem_cons] at hxs
    obtain ⟨hx, hxs⟩ := hxs
    exact ih (trackerStep_unarmed hr hx) hxs

/-- A sample below RT_LOW and then one above RT_HIGH fire, whatever the tracker held (R149). -/
theorem fires_after_below_low {p : Params} {lo hi : Code} (hlo : lo.toInt < p.rtLow.toInt) (hhi : p.rtHigh.toInt < hi.toInt)
    (r : Tracker) : fires p (trackerStep p r lo) hi = true :=
  (fires_iff _ _ _).mpr ⟨hhi, trackerStep_armed_of_below_low hlo r⟩

/-- Settles O28: the fire disarms the channel, and only a sample below RT_LOW arms it again. -/
theorem firesOnceUntilBelowLow : Obligations.FiresOnceUntilBelowLow := by
  refine ⟨fun p ch xs x s hx => ?never, fun p ch lo hi later last s hdisarm hlo hhi hlater _ => ?once⟩
  case never =>
    rw [afterSamples_get, List.foldl_concat]
    exact trackerStep_not_triggered_of_not_above_high hx _
  case once =>
    have hfires := fires_after_below_low hlo hhi (s.rt.get ch)
    have hbelow := trackerStep_armedBelowHigh hdisarm (s.rt.get ch) lo
    have hunarmed := foldl_trackerStep_unarmed (trackerStep_disarms_of_fires hdisarm hfires) hlater
    obtain ⟨hzero, h31⟩ := trackerStep_subsampleInRange_of_fires hbelow hfires
    simp only [afterSamples_get, List.foldl_append, List.foldl_cons, List.foldl_nil]
    exact ⟨hfires, hzero, h31, trackerStep_not_triggered_of_unarmed p hunarmed last⟩

/-! ### A sequence of commands -/

/-- What a command does to the tracker of a channel (R157): the effect of an RTSTEP, RTDISARM or RTCOUNT on that channel, or nothing. -/
theorem exec_tracker_cases {i : Instr} {s t : State} (h : exec i s = .next t) (ch : Channel) :
    (∃ x, i = .rtstep ch x ∧ t.rt.get ch = trackerStep Config.hardware (s.rt.get ch) x) ∨
    (i = .rtdisarm ch ∧ t.rt.get ch = { s.rt.get ch with armed := false }) ∨
    (i = .rtcount ch ∧ t.rt.get ch = { s.rt.get ch with ticks := ticksAfter Config.hardware (s.rt.get ch) }) ∨
    t.rt.get ch = s.rt.get ch := by
  obtain ⟨k, x, rfl, rfl⟩ | ⟨k, rfl, rfl⟩ | ⟨k, rfl, rfl⟩ | ⟨-, hrt⟩ := exec_rt_cases h
  · obtain rfl | hne := eq_or_ne ch k
    · exact .inl ⟨x, rfl, PerChannel.get_set_self ..⟩
    · exact .inr (.inr (.inr (PerChannel.get_set_of_ne _ _ hne)))
  · obtain rfl | hne := eq_or_ne ch k
    · exact .inr (.inl ⟨rfl, PerChannel.get_set_self ..⟩)
    · exact .inr (.inr (.inr (PerChannel.get_set_of_ne _ _ hne)))
  · obtain rfl | hne := eq_or_ne ch k
    · exact .inr (.inr (.inl ⟨rfl, PerChannel.get_set_self ..⟩))
    · exact .inr (.inr (.inr (PerChannel.get_set_of_ne _ _ hne)))
  · exact .inr (.inr (.inr (by rw [hrt])))

/-- A property that each command of a sequence keeps holds after the whole sequence. -/
theorem runCommands_keeps {P : State → Prop} {is : List Instr} {s t : State} (h : runCommands is s = some t)
    (hkeep : ∀ i ∈ is, ∀ s t, commandStep i s = .next t → P s → P t) (hs : P s) : P t := by
  induction is generalizing s with
  | nil =>
    cases h
    exact hs
  | cons i is ih =>
    obtain ⟨s', hs'⟩ := commandStep_completes i s
    rw [runCommands_cons hs'] at h
    rw [List.forall_mem_cons] at hkeep
    obtain ⟨hi, his⟩ := hkeep
    exact ih h his (hi s s' hs' hs)

/-- The tracker of a channel that has not been below RT_LOW since reset (R156). -/
def Tracker.dormant (r : Tracker) : Prop := r.armed = false ∧ r.triggered = false

theorem exec_dormant {i : Instr} {s t : State} {ch : Channel} (h : exec i s = .next t)
    (hsample : ∀ x, i = .rtstep ch x → Config.hardware.rtLow.toInt ≤ x.toInt) (hs : (s.rt.get ch).dormant) :
    (t.rt.get ch).dormant := by
  obtain ⟨harmed, htriggered⟩ := hs
  obtain ⟨x, hi, ht⟩ | ⟨-, ht⟩ | ⟨-, ht⟩ | ht := exec_tracker_cases h ch
  · rw [ht]
    exact ⟨trackerStep_unarmed harmed (hsample x hi), trackerStep_not_triggered_of_unarmed _ harmed x⟩
  · rw [ht]
    exact ⟨rfl, htriggered⟩
  · rw [ht]
    exact ⟨harmed, htriggered⟩
  · rw [ht]
    exact ⟨harmed, htriggered⟩

/-- Settles O29: every channel is dormant after reset, and each of the commands keeps it so. -/
theorem noFireBeforeASampleBelowLow : Obligations.NoFireBeforeASampleBelowLow := by
  refine ⟨fun ch => ?reset, fun ch is hsamples => ?run⟩
  case reset =>
    rw [reset_tracker_get]
    exact ⟨rfl, rfl⟩
  case run =>
    obtain ⟨t, ht⟩ := runCommands_completes is State.reset
    refine ⟨t, ht, runCommands_keeps (P := fun s => (s.rt.get ch).dormant) ht (fun i hi s s' hstep hs => ?_) ?_⟩
    · rw [commandStep_eq_exec] at hstep
      exact exec_dormant hstep (fun x hx => hsamples x (hx ▸ hi)) hs
    · rw [reset_tracker_get]
      exact ⟨rfl, rfl⟩

/-! ### Independence of the trackers -/

/-- The state with other trackers. -/
def State.withTrackers (s : State) (rt : PerChannel Tracker) : State := { s with rt := rt }

/-- With other trackers that agree on the command's own channel, a command leaves a state that differs in trackers only, and not on that
channel (R157). -/
theorem exec_withTrackers {i : Instr} {s t : State} {rt' : PerChannel Tracker} (h : exec i s = .next t)
    (hagree : ∀ ch, trackerChannel i = some ch → rt'.get ch = s.rt.get ch) :
    ∃ rt'', exec i (s.withTrackers rt') = .next (t.withTrackers rt'') ∧
      ∀ ch, trackerChannel i = some ch → rt''.get ch = t.rt.get ch := by
  have hget : ∀ ch, trackerChannel i = some ch → (s.withTrackers rt').rt.get ch = s.rt.get ch := hagree
  cases i with
  | rtstep ch x =>
    cases h
    refine ⟨rt'.set ch (trackerStep Config.hardware (s.rt.get ch) x), ?_, by simp [trackerChannel]⟩
    simp only [exec, execRtstep, rtstep, hget ch rfl]
    rfl
  | rtdisarm ch =>
    cases h
    refine ⟨rt'.set ch { s.rt.get ch with armed := false }, ?_, by simp [trackerChannel]⟩
    simp only [exec, execRtdisarm, hget ch rfl]
    rfl
  | rtcount ch =>
    cases h
    refine ⟨rt'.set ch { s.rt.get ch with ticks := ticksAfter Config.hardware (s.rt.get ch) }, ?_, by simp [trackerChannel]⟩
    simp only [exec, execRtcount, rtcount, hget ch rfl]
    rfl
  | rtrd ch | rtrdt ch =>
    cases h
    refine ⟨rt', ?_, hagree⟩
    simp only [exec, execRtrd, execRtrdt, hget ch rfl]
    rfl
  | _ =>
    cases h
    exact ⟨rt', rfl, nofun⟩

/-- Settles O30: a command's own channel is the one `exec_tracker_cases` lets it write and `exec_withTrackers` lets it read. -/
theorem trackersAreIndependent : Obligations.TrackersAreIndependent := by
  refine ⟨fun i s t ch h hother => ?writes, fun i s t rt' h hagree => ?reads⟩
  case writes =>
    obtain ⟨x, rfl, -⟩ | ⟨rfl, -⟩ | ⟨rfl, -⟩ | ht := exec_tracker_cases h ch
    · exact absurd rfl hother
    · exact absurd rfl hother
    · exact absurd rfl hother
    · exact ht
  case reads =>
    obtain ⟨rt'', hexec, hown⟩ := exec_withTrackers h hagree
    exact ⟨t.withTrackers rt'', hexec, rfl, hown⟩

end Sys2Proof.Machine
end

section
/-! The AUX unit: the encodings of DMDEC, QDIV, PDIV, NEARFS, QPHASE, SYNCN, PGATE and SHAPESEL at every channel value (R74, R75), and what each
leaves in the result registers (42_mapper_aux.md). -/

namespace Sys2Proof

/-- A command that reads no channel is decoded from each of the four command bytes of its row, whatever the operand bits outside its mask
hold (R75). -/
theorem decode_row_any_channel_masked {i : Instr} (unit : Fin 4) (op : Fin 16) (ch : Channel) {a b ma mb : Code} {c mc : Word}
    (hmask : readMask i = ⟨0xFC#8, ma, mb, mc⟩)
    (hencode : encode i = bundleOf unit.val op.val 0 (a &&& ma) (b &&& mb) (c &&& mc)) :
    decode (bundleOf unit.val op.val ch a b c) = .ok i := by
  have hunit := bundleOf_unit unit.isLt op.isLt ch a b c
  have hop := bundleOf_op unit.isLt op.isLt ch a b c
  rw [decode_eq_ok_iff_masked, hencode, hmask, Bundle.masked_row hunit hop, bundleOf_a, bundleOf_b, bundleOf_c]

end Sys2Proof

namespace Sys2Proof.Machine

/-! ### Results that the narrowing leaves alone -/

/-- A result clamped into a range that a u32 holds is not changed by the narrowing. -/
theorem toWord_clamp_toNat (v : Int) {lo hi : Int} (hlo : 0 ≤ lo) (horder : lo ≤ hi) (hhi : hi ≤ 4294967295) :
    ((toWord (clamp v lo hi)).toNat : Int) = clamp v lo hi :=
  toWord_toNat_of_mem (hlo.trans (clamp_ge horder)) ((clamp_le v lo hi).trans hhi)

/-- A (multiplier, divider) pair that two u32 hold is not changed by the narrowing. -/
theorem toWord_pair_toNat {m d : Int} (hm : 0 ≤ m ∧ m ≤ 4294967295) (hd : 0 ≤ d ∧ d ≤ 4294967295) :
    (((toWord m).toNat : Int), ((toWord d).toNat : Int)) = (m, d) := by
  rw [toWord_toNat_of_mem hm.1 hm.2, toWord_toNat_of_mem hd.1 hd.2]

/-! ### DMDEC -/

/-- The pair of a 16-bit code is in [1, 32768], the end being the multiplier of -32768 (R170). -/
theorem decodeCode_mem {v : Int} (hlow : -32768 ≤ v) (hhigh : v ≤ 32767) :
    (1 ≤ (decodeCode v).1 ∧ (decodeCode v).1 ≤ 32768) ∧ (1 ≤ (decodeCode v).2 ∧ (decodeCode v).2 ≤ 32768) := by
  obtain ⟨hpos, hpair⟩ | ⟨hneg, hpair⟩ | ⟨-, -, hpair⟩ := decodeCode_cases v
  all_goals
    rw [hpair]
    dsimp only
    omega

/-- Settles O35: DMDEC's definition is R170's table, and both parts of its pair fit in a result register. -/
theorem dmdecWritesMultiplierAndDivider : Obligations.DmdecWritesMultiplierAndDivider := by
  refine ⟨fun ch a b c => ?encoding, fun v s => ?result⟩
  case encoding => exact decode_row_any_channel_masked 2 0 ch rfl (by simp [encode])
  case result =>
    obtain ⟨hlow, hhigh⟩ := sext_code_bounds v
    obtain ⟨hm, hd⟩ := decodeCode_mem hlow hhigh
    exact ⟨_, _, exec_dmdec v s, toWord_pair_toNat (by omega) (by omega)⟩

/-! ### QDIV and PDIV -/

/-- The term of QDIV and PDIV counts down from 6 over seven ranges of the pot (R175). -/
theorem slaveTerm_eq_table (pot : Code) :
    slaveTerm pot = if pot.toNat ≤ 9361 then 6 else if pot.toNat ≤ 18723 then 5 else if pot.toNat ≤ 28085 then 4
      else if pot.toNat ≤ 37448 then 3 else if pot.toNat ≤ 46810 then 2 else if pot.toNat ≤ 56172 then 1 else 0 := by
  have hpot := pot.isLt
  have hterm : slaveTerm pot = (7 * (65535 - (pot.toNat : Int))).tdiv 65536 := rfl
  rw [hterm, Int.tdiv_eq_ediv_of_nonneg (by omega)]
  split_ifs <;> omega

/-- QDIV's result is `i + 1` plus the term: at most 4 + 6, so that the clamp to [1, 16] never binds (R175). -/
theorem qdivValue_toNat (ch : Channel) (pot : Code) : ((qdivValue ch pot).toNat : Int) = ch.val + 1 + slaveTerm pot := by
  have hch := ch.isLt
  obtain ⟨hlow, hhigh⟩ := slaveTerm_bounds pot
  have hvalue : qdivValue ch pot = toWord (clamp (slaveTerm pot + (ch.val + 1)) 1 16) := rfl
  rw [hvalue, toWord_clamp_toNat _ (by decide) (by decide) (by decide), clamp_of_mem (by omega) (by omega)]
  omega

/-- Settles O36: QDIV narrows a clamped sum, which is the sum itself. -/
theorem qdivWritesTheQuadSlaveDivider : Obligations.QdivWritesTheQuadSlaveDivider := by
  refine ⟨fun ch a b c => ?encoding, fun ch pot s => ?result⟩
  case encoding => exact decode_row_own_channel 2 1 ch rfl (by simp [encode])
  case result =>
    refine ⟨_, rfl, toWord_clamp_toNat _ (by decide) (by decide) (by decide), ?_⟩
    have hvalue := qdivValue_toNat ch pot
    rw [slaveTerm_eq_table] at hvalue
    exact_mod_cast hvalue

/-- PDIV's clamp only lifts the term 0 to 1 (R178). -/
theorem pdivValue_toNat (pot : Code) : ((pdivValue pot).toNat : Int) = max (slaveTerm pot) 1 := by
  obtain ⟨-, hhigh⟩ := slaveTerm_bounds pot
  have hvalue : pdivValue pot = toWord (clamp (slaveTerm pot) 1 16) := rfl
  rw [hvalue, toWord_clamp_toNat _ (by decide) (by decide) (by decide), clamp]
  omega

/-- Settles O37: PDIV's term is at most 6. -/
theorem pdivWritesThePhaseSlaveDivider : Obligations.PdivWritesThePhaseSlaveDivider := by
  refine ⟨fun ch a b c => ?encoding, fun pot s => ?result⟩
  case encoding => exact decode_row_any_channel_masked 2 2 ch rfl (by simp [encode])
  case result =>
    have hvalue := pdivValue_toNat pot
    obtain ⟨-, hhigh⟩ := slaveTerm_bounds pot
    exact ⟨_, rfl, toWord_clamp_toNat _ (by decide) (by decide) (by decide), by omega, by omega⟩

/-! ### NEARFS and QPHASE -/

/-- Less than 256 codes below full scale is from 65280 on (R180). -/
theorem nearfsValue_eq (coarse : Code) : nearfsValue coarse = if 65280 ≤ coarse.toNat then 1 else 0 := by
  have hmargin : 65535 - (coarse.toNat : Int) < 256 ↔ 65280 ≤ coarse.toNat := by omega
  exact if_congr hmargin rfl rfl

/-- Settles O38: NEARFS writes RES0 alone, with its margin read as a threshold. -/
theorem nearfsTestsTheTop256Codes : Obligations.NearfsTestsTheTop256Codes := by
  refine ⟨fun ch a b c => ?encoding, fun coarse s => ?result⟩
  case encoding => exact decode_row_any_channel_masked 2 3 ch rfl (by simp [encode])
  case result =>
    rw [← nearfsValue_eq]
    rfl

/-- QPHASE's 16-bit wrap takes the whole cycle of channel 0 to 0 (R183). -/
theorem qphaseValue_toNat (ch : Channel) : (qphaseValue ch).toNat = (4 - ch.val) * 16384 % 65536 := by
  have hch := ch.isLt
  have hwrap : ((toCode ((4 - (ch.val : Int)) * 16384)).toNat : Int) = (4 - (ch.val : Int)) * 16384 % 2 ^ 16 := toCode_toNat _
  have hvalue : qphaseValue ch = zextWord (toCode ((4 - (ch.val : Int)) * 16384)) := rfl
  rw [hvalue, zextWord_toNat]
  omega

/-- Settles O39: QPHASE writes RES0 alone. -/
theorem qphaseWritesTheQuadraturePhase : Obligations.QphaseWritesTheQuadraturePhase := by
  refine ⟨fun ch a b c => ?encoding, fun ch s => ?result⟩
  case encoding => exact decode_row_channel_only 2 4 ch a b c rfl rfl
  case result => exact ⟨_, rfl, qphaseValue_toNat ch⟩

/-! ### SYNCN -/

/-- The count as a floor: its dividend is a magnitude (R186). -/
theorem syncCount_eq_ediv (cv : Int) : syncCount cv = |cv| * 8 / 32767 + 1 := by
  have hcount : syncCount cv = ((cv.natAbs : Int) * 8).tdiv 32767 + 1 := rfl
  rw [hcount, Int.tdiv_eq_ediv_of_nonneg (by omega), Int.abs_eq_natAbs]

/-- Both parts of a CV's pair are in [1, 524305], the end being the divider of -2^31 (R186). -/
theorem syncPair_mem {cv : Int} (hlow : -2147483648 ≤ cv) (hhigh : cv ≤ 2147483647) :
    (1 ≤ (syncPair cv).1 ∧ (syncPair cv).1 ≤ 524305) ∧ (1 ≤ (syncPair cv).2 ∧ (syncPair cv).2 ≤ 524305) := by
  have hcount : 1 ≤ syncCount cv ∧ syncCount cv ≤ 524305 := by
    have habs : |cv| ≤ 2147483648 := abs_le.mpr ⟨hlow, by omega⟩
    have hnonneg := abs_nonneg cv
    rw [syncCount_eq_ediv]
    omega
  unfold syncPair
  split_ifs
  all_goals
    dsimp only
    omega

/-- Settles O40: SYNCN's definition is R186's table in `syncCount`, whose values on R187's range are those of a floor. -/
theorem syncnWritesMultiplierOrDivider : Obligations.SyncnWritesMultiplierOrDivider := by
  refine ⟨fun ch a b c => ?encoding, fun cv s => ?result⟩
  case encoding => exact decode_row_any_channel_masked 2 5 ch rfl (by simp [encode])
  case result =>
    obtain ⟨hlow, hhigh⟩ := sext_word_bounds cv
    obtain ⟨hm, hd⟩ := syncPair_mem hlow hhigh
    have hcount := syncCount_eq_ediv cv.toInt
    have hnonneg := abs_nonneg cv.toInt
    refine ⟨_, _, syncCount cv.toInt, ?count, rfl, toWord_pair_toNat (by omega) (by omega), fun hcv => ?range, fun hends => ?ends⟩
    case count => rw [hcount, Int.tdiv_eq_ediv_of_nonneg (by omega)]
    case range => omega
    case ends => obtain hcv | hcv | hcv := hends <;> rw [hcount, hcv] <;> rfl

/-! ### PGATE -/

theorem knobMoved_eq (coarse last : Code) : knobMoved coarse last = decide (|(coarse.toNat : Int) - (last.toNat : Int)| > 1638) := by
  rw [Int.abs_eq_natAbs]
  rfl

/-- The places of the two fields PGATE packs into RES1 (R190). -/
theorem gateWord_toNat (coarse last : Code) (synced : Bool) :
    (gateWord coarse last synced).toNat =
      (if synced && !knobMoved coarse last then 65536 else 0) + (if pitchApplies coarse last synced then coarse else last).toNat := by
  unfold gateWord
  generalize (if pitchApplies coarse last synced then coarse else last) = code
  generalize (synced && !knobMoved coarse last) = locked
  have hflag : (0#15 ++ BitVec.ofBool locked).toNat = locked.toNat := by
    cases locked <;> rfl
  have hword : (0#15 ++ BitVec.ofBool locked ++ code).toNat = (0#15 ++ BitVec.ofBool locked).toNat <<< 16 ||| code.toNat :=
    BitVec.toNat_append ..
  rw [hword, ← Nat.shiftLeft_add_eq_or_of_lt code.isLt, Nat.shiftLeft_eq, hflag]
  cases locked <;> rfl

/-- Settles O41: PGATE writes the results alone, and RES1's fields lie where `gateWord_toNat` says. -/
theorem pgateAppliesAndBreaksTheLock : Obligations.PgateAppliesAndBreaksTheLock := by
  refine ⟨fun ch a b c => ?encoding, fun coarse last synced s => ⟨gateWord coarse last synced, ?result⟩⟩
  case encoding => exact decode_row_any_channel_masked 2 6 ch rfl (by simp [encode, and_synced_flag])
  case result =>
    rw [← knobMoved_eq]
    exact ⟨rfl, gateWord_toNat coarse last synced⟩

/-! ### SHAPESEL -/

/-- A code that 32 bits hold is SHAPESEL's result (R194). -/
theorem shapeValue_toNat_of_lt {p : Params} {selector : Code} {offset : Byte} {bank quad : Bool}
    (h : activeShape p selector offset bank quad < 2 ^ 32) :
    (shapeValue p selector offset bank quad).toNat = activeShape p selector offset bank quad := by
  have hvalue : shapeValue p selector offset bank quad = toWord (activeShape p selector offset bank quad) := if_pos h
  have hnarrow := toWord_toNat_of_mem (v := activeShape p selector offset bank quad) (by omega) (by omega)
  rw [hvalue]
  exact_mod_cast hnarrow

/-- The QUAD substitution, its two conditions read as propositions (R194). -/
theorem activeShape_eq (p : Params) (selector : Code) (offset : Byte) (bank quad : Bool) :
    activeShape p selector offset bank quad =
      if quad = true ∧ shapeCode p selector offset bank = p.shapeTrapezoid then p.shapeSquare else shapeCode p selector offset bank := by
  simp only [activeShape, Bool.and_eq_true, decide_eq_true_eq]

/-- Settles O42: SHAPESEL writes RES0 alone, and its code before the narrowing is `activeShape`. -/
theorem shapeselWritesTheActiveShape : Obligations.ShapeselWritesTheActiveShape := by
  refine ⟨fun ch a b c => ?encoding, fun selector offset bank quad s => rfl, fun p selector offset bank quad => ?value⟩
  case encoding => exact decode_row_any_channel_masked 2 7 ch rfl (by simp [encode, and_low_byte, and_shape_flags])
  case value =>
    intro code final hfinal
    have hactive : activeShape p selector offset bank quad = final := activeShape_eq p selector offset bank quad
    rw [← hactive] at hfinal ⊢
    exact shapeValue_toNat_of_lt hfinal

/-- The code sees the offset modulo 4 alone, so any count that agrees with it there gives the same code (R194). -/
theorem shapeCode_eq_of_mod_four (p : Params) (selector : Code) {offset : Byte} (bank : Bool) {n : Nat} (h : n % 4 = offset.toNat % 4) :
    shapeCode p selector offset bank = (if bank then p.shapeBaseRandom else p.shapeBaseClassic) + (selector.toNat + n) % 4 := by
  have hsum : (selector.toNat + offset.toNat) % 4 = (selector.toNat + n) % 4 := by omega
  rw [shapeCode, hsum]

/-- SHAPESEL's result depends on the offset through the code alone. -/
theorem shapeValue_congr {p : Params} {selector : Code} {offset offset' : Byte} {bank : Bool} (quad : Bool)
    (h : shapeCode p selector offset bank = shapeCode p selector offset' bank) :
    shapeValue p selector offset bank quad = shapeValue p selector offset' bank quad := by
  have hactive : activeShape p selector offset bank quad = activeShape p selector offset' bank quad := by
    rw [activeShape_eq, h, ← activeShape_eq]
  unfold shapeValue
  rw [hactive]

/-- Settles O43: 4 divides 256, so a wrapped count and the count agree modulo 4. -/
theorem waveformOffsetWrapIsInvisible : Obligations.WaveformOffsetWrapIsInvisible := by
  refine fun p selector offset offset' bank quad hmod => ⟨?congruent, fun n hn => ?wrapped⟩
  case congruent => exact shapeValue_congr quad (shapeCode_eq_of_mod_four p selector bank hmod.symm)
  case wrapped => exact shapeCode_eq_of_mod_four p selector bank (by omega)

end Sys2Proof.Machine
end

section
/-! The MIX unit: the encodings of its five commands (R74), the effect of one of them, and the running sums and outputs of a QUAD mixing pass
(43_mixer.md). -/

namespace Sys2Proof.Machine

/-! ### One command -/

/-- Settles O44: MIXCLR is one write of the accumulators. -/
theorem mixclrClearsTheAccumulators : Obligations.MixclrClearsTheAccumulators := by
  refine ⟨fun ch a b c => ?encoding, fun s => ?effect⟩
  case encoding => exact decode_row_any_channel_masked 3 0 ch rfl (by simp [encode])
  case effect => rfl

/-- Settles O49: both commands write the results alone. -/
theorem mixrdAndMixrdgReadTheAccumulators : Obligations.MixrdAndMixrdgReadTheAccumulators := by
  refine ⟨fun ch a b c => ⟨?mixrd, ?mixrdg⟩, fun s => ?effect⟩
  case mixrd => exact decode_row_any_channel_masked 3 3 ch rfl (by simp [encode])
  case mixrdg => exact decode_row_any_channel_masked 3 4 ch rfl (by simp [encode])
  case effect => exact ⟨rfl, rfl⟩

/-- Settles O45: MIXP's three words are extended operands. -/
theorem mixpPassesTheSamplesThrough : Obligations.MixpPassesTheSamplesThrough := by
  refine ⟨fun ch a b hi lo => ?encoding, fun ch level sine shape s => ?effect⟩
  case encoding => exact decode_row_own_channel 3 1 ch rfl (by simp [encode, and_low_half])
  case effect => exact ⟨_, _, _, rfl, sextWord_toInt sine, sextWord_toInt shape, zextWord_toNat level⟩

/-- The gain accumulator counts modulo 2^32 (R215, R219). -/
theorem addAccumulators_g_toNat (acc : Mixer) (level sine shape : Code) :
    (addAccumulators acc level sine shape).g.toNat = (acc.g.toNat + level.toNat) % 2 ^ 32 := by
  have hgain : ((addAccumulators acc level sine shape).g.toNat : Int) = ((acc.g.toNat : Int) + level.toNat) % 2 ^ 32 := toWord_toNat _
  omega

/-- Settles O46: the normaliser reads the accumulators MIXQ has just written. -/
theorem mixqAccumulatesAndNormalises : Obligations.MixqAccumulatesAndNormalises := by
  refine ⟨fun ch a b hi lo => ?encoding, fun ch level sine shape s => ?effect⟩
  case encoding => exact decode_row_own_channel 3 2 ch rfl (by simp [encode, and_low_half])
  case effect =>
    exact ⟨_, _, _, _, _, rfl, toWord_toInt _, toWord_toInt _, addAccumulators_g_toNat s.mix level sine shape,
      quadNorm_toInt _ _, quadNorm_toInt _ _⟩

/-! ### Sums over channels -/

/-- Among four channels a list without repetition has at most four, so that a sum over it is at most four terms. -/
theorem sum_channels_bounds {f : Channel → Int} {lo hi : Int} (hlo : lo ≤ 0) (hhi : 0 ≤ hi) (hf : ∀ j, lo ≤ f j ∧ f j ≤ hi)
    {chs : List Channel} (hnodup : chs.Nodup) : 4 * lo ≤ (chs.map f).sum ∧ (chs.map f).sum ≤ 4 * hi := by
  have hlength : (chs.length : Int) ≤ 4 := by exact_mod_cast hnodup.length_le_card
  have hlow : (chs.map f).length • lo ≤ (chs.map f).sum := List.card_nsmul_le_sum _ _ (by simpa using fun j _ => (hf j).1)
  have hhigh : (chs.map f).sum ≤ (chs.map f).length • hi := List.sum_le_card_nsmul _ _ (by simpa using fun j _ => (hf j).2)
  rw [List.length_map, nsmul_eq_mul] at hlow hhigh
  exact ⟨(mul_le_mul_of_nonpos_right hlength hlo).trans hlow, hhigh.trans (mul_le_mul_of_nonneg_right hlength hhi)⟩

theorem sum_samples_bounds (sample : Channel → Code) {chs : List Channel} (hnodup : chs.Nodup) :
    -131072 ≤ (chs.map fun j => (sample j).toInt).sum ∧ (chs.map fun j => (sample j).toInt).sum ≤ 131068 :=
  sum_channels_bounds (by decide) (by decide) (fun j => sext_code_bounds (sample j)) hnodup

theorem sum_levels_bounds (level : Channel → Code) {chs : List Channel} (hnodup : chs.Nodup) :
    0 ≤ (chs.map fun j => ((level j).toNat : Int)).sum ∧ (chs.map fun j => ((level j).toNat : Int)).sum ≤ 262140 :=
  sum_channels_bounds (by decide) (by decide) (fun j => zext_code_bounds (level j)) hnodup

/-- Samples that are at most half their levels sum to at most half the sum of the levels. -/
theorem two_mul_abs_sum_le {f g : Channel → Int} (h : ∀ j, 2 * |f j| ≤ g j) (chs : List Channel) :
    2 * |(chs.map f).sum| ≤ (chs.map g).sum := by
  induction chs with
  | nil => simp
  | cons j chs ih =>
    have hadd := abs_add_le (f j) (chs.map f).sum
    have hj := h j
    rw [List.map_cons, List.map_cons, List.sum_cons, List.sum_cons]
    omega

/-! ### The accumulators of a QUAD pass (R216, R218) -/

/-- The accumulators hold the exact sums over the channels of the list. -/
structure Mixer.HoldsSums (m : PerChannel MixInput) (mixed : List Channel) (acc : Mixer) : Prop where
  ss : acc.ss.toInt = (mixed.map fun j => (m.get j).sine.toInt).sum
  sa : acc.sa.toInt = (mixed.map fun j => (m.get j).shape.toInt).sum
  g : (acc.g.toNat : Int) = (mixed.map fun j => ((m.get j).level.toNat : Int)).sum

/-- One channel more keeps the sums exact: over at most four channels no accumulator wraps (R218). -/
theorem Mixer.HoldsSums.addAccumulators {m : PerChannel MixInput} {mixed : List Channel} {acc : Mixer} (h : acc.HoldsSums m mixed)
    {ch : Channel} (hnodup : (ch :: mixed).Nodup) :
    (addAccumulators acc (m.get ch).level (m.get ch).sine (m.get ch).shape).HoldsSums m (ch :: mixed) := by
  have hss := sum_samples_bounds (fun j => (m.get j).sine) hnodup
  have hsa := sum_samples_bounds (fun j => (m.get j).shape) hnodup
  have hg := sum_levels_bounds (fun j => (m.get j).level) hnodup
  simp only [List.map_cons, List.sum_cons, ← h.ss, ← h.sa, ← h.g] at hss hsa hg
  constructor
  case ss =>
    rw [List.map_cons, List.sum_cons, ← h.ss, add_comm]
    exact toWord_toInt_of_mem (v := acc.ss.toInt + (m.get ch).sine.toInt) (by omega) (by omega)
  case sa =>
    rw [List.map_cons, List.sum_cons, ← h.sa, add_comm]
    exact toWord_toInt_of_mem (v := acc.sa.toInt + (m.get ch).shape.toInt) (by omega) (by omega)
  case g =>
    rw [List.map_cons, List.sum_cons, ← h.g, add_comm]
    exact toWord_toNat_of_mem (v := (acc.g.toNat : Int) + (m.get ch).level.toNat) (by omega) (by omega)

/-! ### The normaliser -/

/-- A quotient truncated toward zero is within `q` when the dividend is within `q` divisors. -/
theorem abs_tdiv_le {x d q : Int} (hd : 0 < d) (h : |x| ≤ q * d) : |x.tdiv d| ≤ q := by
  lift d to ℕ using hd.le
  exact le_of_mul_le_mul_right ((abs_tdiv_mul_le x d).trans h) hd

/-- The normaliser's output for sums of four samples: no wrap (R218). -/
theorem quadNorm_toInt_of_mem {sum gain : Word} (hlow : -131072 ≤ sum.toInt) (hhigh : sum.toInt ≤ 131072) :
    (quadNorm sum gain).toInt = (sum.toInt * 8192).tdiv (max (gain.toNat : Int) 65535) * 8 := by
  have hquotient : |(sum.toInt * 8192).tdiv (max (gain.toNat : Int) 65535)| ≤ 16385 :=
    abs_tdiv_le (by omega) (abs_le.mpr ⟨by omega, by omega⟩)
  obtain ⟨hqlow, hqhigh⟩ := abs_le.mp hquotient
  rw [quadNorm_toInt, Int.bmod_eq_of_le] <;> omega

/-- Samples scaled by their levels leave the normaliser within one code of the signed 16-bit range (R218). -/
theorem normalised_mem {sum gain : Int} (h : 2 * |sum| ≤ gain) :
    -32768 ≤ (sum * 8192).tdiv (max gain 65535) * 8 ∧ (sum * 8192).tdiv (max gain 65535) * 8 ≤ 32768 := by
  have hdividend : |sum * 8192| ≤ 4096 * max gain 65535 := by
    rw [abs_mul, abs_of_pos (by decide : (0 : Int) < 8192)]
    omega
  obtain ⟨hlow, hhigh⟩ := abs_le.mp (abs_tdiv_le (by omega) hdividend)
  omega

/-! ### The QUAD pass -/

/-- The mixing command of one channel in QUAD mode (R302). -/
def quadCommand (m : PerChannel MixInput) (ch : Channel) : Instr := .mixq ch (m.get ch).level (m.get ch).sine (m.get ch).shape

theorem mixingPass_quad (m : PerChannel MixInput) : mixingPass true m = .mixclr :: [3, 2, 1, 0].map (quadCommand m) := rfl

/-- The state within a QUAD pass, with the channels already mixed, the last one first: the accumulators hold the sums over all of them, and
each channel's DAC registers the normalised sums over that channel and those mixed before it. -/
structure State.QuadMixed (m : PerChannel MixInput) (mixed : List Channel) (s : State) : Prop where
  accumulators : s.mix.HoldsSums m mixed
  outputs : ∀ k before, (k :: before) <:+ mixed → ∃ acc : Mixer, acc.HoldsSums m (k :: before) ∧
    s.dacSine.get k = quadNorm acc.ss acc.g ∧ s.dacAsgn.get k = quadNorm acc.sa acc.g

/-- MIXCLR starts a pass. -/
theorem commandStep_mixclr_quadMixed (m : PerChannel MixInput) (s : State) :
    ∃ t, commandStep .mixclr s = .next t ∧ t.QuadMixed m [] :=
  ⟨_, commandStep_eq_exec .mixclr s, ⟨rfl, rfl, rfl⟩, fun k before hsuffix => absurd hsuffix (by simp)⟩

/-- One MIXQ adds its channel, and leaves the outputs of the others. -/
theorem State.QuadMixed.commandStep {m : PerChannel MixInput} {mixed : List Channel} {s : State} (h : s.QuadMixed m mixed)
    {ch : Channel} (hnodup : (ch :: mixed).Nodup) :
    ∃ t, commandStep (quadCommand m ch) s = .next t ∧ t.QuadMixed m (ch :: mixed) := by
  have hsums := h.accumulators.addAccumulators hnodup
  refine ⟨_, commandStep_eq_exec (quadCommand m ch) s, hsums, fun k before hsuffix => ?_⟩
  obtain hnew | hold := List.suffix_cons_iff.mp hsuffix
  · obtain ⟨rfl, rfl⟩ := List.cons.inj hnew
    exact ⟨_, hsums, PerChannel.get_set_self .., PerChannel.get_set_self ..⟩
  · have hne : k ≠ ch := fun heq => (List.nodup_cons.mp hnodup).1 (heq ▸ hold.subset List.mem_cons_self)
    obtain ⟨acc, hacc, hsine, hasgn⟩ := h.outputs k before hold
    exact ⟨acc, hacc, (PerChannel.get_set_of_ne _ _ hne).trans hsine, (PerChannel.get_set_of_ne _ _ hne).trans hasgn⟩

/-- MIXQ for each of some channels in turn, none of them mixed before. -/
theorem State.QuadMixed.runCommands {m : PerChannel MixInput} {mixed chs : List Channel} {s : State} (h : s.QuadMixed m mixed)
    (hnodup : (chs.reverse ++ mixed).Nodup) :
    ∃ t, runCommands (chs.map (quadCommand m)) s = some t ∧ t.QuadMixed m (chs.reverse ++ mixed) := by
  induction chs generalizing mixed s with
  | nil => exact ⟨s, rfl, h⟩
  | cons ch chs ih =>
    rw [List.reverse_cons, List.append_assoc, List.singleton_append] at hnodup ⊢
    obtain ⟨u, hstep, hu⟩ := h.commandStep hnodup.of_append_right
    rw [List.map_cons, runCommands_cons hstep]
    exact ih hu hnodup

/-- A whole QUAD pass completes and mixes all four channels (R216). -/
theorem mixingPass_quadMixed (m : PerChannel MixInput) (s : State) :
    ∃ t, runCommands (mixingPass true m) s = some t ∧ t.QuadMixed m (List.finRange 4) := by
  obtain ⟨u, hclear, hu⟩ := commandStep_mixclr_quadMixed m s
  rw [mixingPass_quad, runCommands_cons hclear]
  exact hu.runCommands (chs := [3, 2, 1, 0]) (by decide)

/-- The channels from `k` up are `k` and those a pass mixes before it. -/
theorem channels_from_eq_cons (k : Channel) :
    ∃ before, (List.finRange 4).filter (fun j => k ≤ j) = k :: before ∧ (k :: before) <:+ List.finRange 4 :=
  ⟨(List.finRange 4).filter (fun j => k < j), by revert k; decide⟩

/-- Sums over distinct channels are within what the normaliser maps without a wrap (R218). -/
theorem Mixer.HoldsSums.quadNorm_toInt {m : PerChannel MixInput} {mixed : List Channel} {acc : Mixer} (h : acc.HoldsSums m mixed)
    (hnodup : mixed.Nodup) :
    (quadNorm acc.ss acc.g).toInt = (acc.ss.toInt * 8192).tdiv (max (acc.g.toNat : Int) 65535) * 8 ∧
    (quadNorm acc.sa acc.g).toInt = (acc.sa.toInt * 8192).tdiv (max (acc.g.toNat : Int) 65535) * 8 := by
  have hsines := sum_samples_bounds (fun j => (m.get j).sine) hnodup
  have hshapes := sum_samples_bounds (fun j => (m.get j).shape) hnodup
  rw [← h.ss] at hsines
  rw [← h.sa] at hshapes
  exact ⟨quadNorm_toInt_of_mem (by omega) (by omega), quadNorm_toInt_of_mem (by omega) (by omega)⟩

/-- Settles O47: the channels from 3 down to k are those mixed when k's outputs are written. -/
theorem quadPassMixesChannelsThreeDownToEach : Obligations.QuadPassMixesChannelsThreeDownToEach := by
  intro m s
  obtain ⟨t, hrun, ht⟩ := mixingPass_quadMixed m s
  refine ⟨t, hrun, fun k => ?_⟩
  intro above sines shapes gain
  obtain ⟨before, habove, hsuffix⟩ := channels_from_eq_cons k
  obtain ⟨acc, hacc, hsine, hasgn⟩ := ht.outputs k before hsuffix
  obtain ⟨hsineValue, hasgnValue⟩ := hacc.quadNorm_toInt (hsuffix.sublist.nodup (List.nodup_finRange 4))
  rw [← habove] at hacc
  refine ⟨?sine, ?shape, ?accumulators⟩
  case sine => rw [hsine, hsineValue, hacc.ss, hacc.g]
  case shape => rw [hasgn, hasgnValue, hacc.sa, hacc.g]
  case accumulators =>
    rintro rfl
    exact ⟨ht.accumulators.ss, ht.accumulators.sa, ht.accumulators.g⟩

/-- Settles O48: the half-level bound passes to the sums, and the outputs are the normalised sums of O47. -/
theorem levelScaledQuadPassStaysInRange : Obligations.LevelScaledQuadPassStaysInRange := by
  intro m s hscaled
  obtain ⟨t, hrun, hmix⟩ := quadPassMixesChannelsThreeDownToEach m s
  refine ⟨t, hrun, fun k => ?_⟩
  obtain ⟨hsine, hasgn, -⟩ := hmix k
  obtain ⟨hsineLow, hsineHigh⟩ := normalised_mem (two_mul_abs_sum_le (fun j => (hscaled j).1) _)
  obtain ⟨hasgnLow, hasgnHigh⟩ := normalised_mem (two_mul_abs_sum_le (fun j => (hscaled j).2) _)
  rw [hsine, hasgn]
  exact ⟨hsineLow, hsineHigh, hasgnLow, hasgnHigh⟩

end Sys2Proof.Machine
end

section
/-! The SYS commands RDSTAT, CLRSTAT and NOP: their encodings at every channel value and operand (R74, R75), and what each does to STAT and the
result registers (44_system.md). -/

namespace Sys2Proof

/-- A command that reads neither channel nor operand is decoded from each of the four command bytes of its row, whatever the operands are. -/
theorem decode_row_no_operand {i : Instr} (unit : Fin 4) (op : Fin 16) (ch : Channel) (a b : Code) (c : Word)
    (hmask : readMask i = ⟨0xFC#8, 0#16, 0#16, 0#32⟩) (hencode : encode i = bundleOf unit.val op.val 0 0 0 0) :
    decode (bundleOf unit.val op.val ch a b c) = .ok i :=
  decode_row_any_channel_masked unit op ch hmask (by simp [hencode])

end Sys2Proof

namespace Sys2Proof.Machine

/-- The places of STAT's two bits, with zeros above them (R23, R240). -/
theorem Stat.word_toNat (st : Stat) : st.word.toNat = (if st.ill then 1 else 0) + (if st.dz then 2 else 0) := by
  obtain ⟨ill, dz⟩ := st
  cases ill <;> cases dz <;> rfl

/-- Settles O52: RDSTAT writes the results alone, and RES0's bits lie where `Stat.word_toNat` says. -/
theorem rdstatReadsTheStatusRegister : Obligations.RdstatReadsTheStatusRegister := by
  refine ⟨fun ch a b c => ?encoding, fun s => ?effect⟩
  case encoding => exact decode_row_no_operand 3 13 ch a b c rfl rfl
  case effect => exact ⟨_, rfl, Stat.word_toNat s.stat⟩

/-- Settles O53: CLRSTAT is one write of STAT. -/
theorem clrstatClearsTheStatusRegister : Obligations.ClrstatClearsTheStatusRegister := by
  refine ⟨fun ch a b c => ?encoding, fun s => ?effect⟩
  case encoding => exact decode_row_no_operand 3 14 ch a b c rfl rfl
  case effect => rfl

/-- Settles O54: NOP writes nothing, so its definition answers the state it is given. -/
theorem nopChangesNothing : Obligations.NopChangesNothing := by
  refine ⟨fun ch a b c => ?encoding, fun s => ?effect⟩
  case encoding => exact decode_row_no_operand 3 15 ch a b c rfl rfl
  case effect => rfl

end Sys2Proof.Machine
end

section
/-! Runs without a reserved byte (R269), and the step without a move of the host (R276). -/

namespace Sys2Proof.Machine

/-- Settles O8: the step without a move is the idle step. -/
theorem noMoveKeepsAllState : Obligations.NoMoveKeepsAllState := fun _ => step_of_no_move

/-- The host's moves issue no reserved byte (R76). -/
def noReservedByte (moves : List HostEvent) : Prop := ∀ b : Bundle, HostEvent.issue b ∈ moves → b.wellFormed = true

theorem noReservedByte_cons_iff {e : HostEvent} {rest : List HostEvent} :
    noReservedByte (e :: rest) ↔ (∀ b, e = .issue b → b.wellFormed = true) ∧ noReservedByte rest := by
  simp only [noReservedByte, List.mem_cons, or_imp, forall_and, eq_comm]

/-- No command sets ILL (R261). -/
theorem exec_clean {i : Instr} {s t : State} (h : exec i s = .next t) (hs : s.clean) : t.clean := by
  unfold State.clean at *
  obtain ⟨-, hstat⟩ | ⟨-, hill, -⟩ := commandsWriteStatOnlyAsStated i s t h
  · rw [hstat]
  · rw [hill, hs]

/-- Of the host's moves only a reserved byte sets ILL, so without one a step completes and its successor meets the premise of R269 again. -/
theorem step_clean_of_noReservedByte {s : State} (hs : s.clean) (hbytes : noReservedByte s.inbox) :
    ∃ t, step s = .next t ∧ t.clean ∧ noReservedByte t.inbox := by
  match hnext : s.inbox with
  | [] => exact ⟨s, step_of_no_move hnext, hs, hbytes⟩
  | .reset :: rest =>
    rw [hnext, noReservedByte_cons_iff] at hbytes
    exact ⟨_, step_of_reset hnext, rfl, hbytes.2⟩
  | .issue b :: rest =>
    rw [hnext, noReservedByte_cons_iff] at hbytes
    obtain ⟨hb, hrest⟩ := hbytes
    obtain ⟨i, hdec⟩ := (exists_decode_ok_iff b).mpr (hb b rfl)
    obtain ⟨t, ht⟩ := exec_completes i (s.accept rest)
    have hinbox : t.inbox = rest := exec_inbox ht
    exact ⟨t, (step_of_decode_ok hnext hdec).trans ht, exec_clean ht hs, hinbox ▸ hrest⟩

/-- What makes every run clean: an invariant of clean states from which each step completes and which each step keeps. -/
theorem cleanRun_of_invariant {P : State → Prop} (hclean : ∀ s, P s → s.clean)
    (hstep : ∀ s, P s → ∃ t, step s = .next t ∧ P t) (n : Nat) {s : State} (hs : P s) : cleanRun n s := by
  induction n generalizing s with
  | zero => exact hclean s hs
  | succ n ih =>
    obtain ⟨t, ht, hPt⟩ := hstep s hs
    exact ⟨hclean s hs, t, ht, ih hPt⟩

/-- Settles O12: that ILL is clear and no reserved byte is to come is an invariant of the steps. -/
theorem runWithoutReservedBytesIsClean : Obligations.RunWithoutReservedBytesIsClean :=
  fun n _ hs hbytes =>
    cleanRun_of_invariant (P := fun s => s.clean ∧ noReservedByte s.inbox) (fun _ h => h.1)
      (fun _ h => step_clean_of_noReservedByte h.1 h.2) n ⟨hs, hbytes⟩

end Sys2Proof.Machine
end

section
/-! The reset input (R290), and what a host's tick leaves on each channel (R300 to R303). -/

namespace Sys2Proof.Machine

/-! ### The reset input -/

theorem reset_stat_word : State.reset.stat.word = 0 := by decide

@[simp] theorem reset_dacSine_get (ch : Channel) : State.reset.dacSine.get ch = 0 := PerChannel.get_all 0 ch
@[simp] theorem reset_dacAsgn_get (ch : Channel) : State.reset.dacAsgn.get ch = 0 := PerChannel.get_all 0 ch
@[simp] theorem reset_wsSine_get (ch : Channel) : State.reset.wsSine.get ch = false := PerChannel.get_all false ch
@[simp] theorem reset_wsAsgn_get (ch : Channel) : State.reset.wsAsgn.get ch = false := PerChannel.get_all false ch

/-- Settles O9: the step's successor is `State.reset` but for the later moves, and each of its channels holds the reset values. -/
theorem resetInputClearsEveryRegister : Obligations.ResetInputClearsEveryRegister := by
  refine ⟨fun s rest hnext => ?every, step_of_reset rfl⟩
  case every =>
    refine ⟨_, step_of_reset hnext, rfl, rfl, reset_stat_word, rfl, rfl, rfl, fun ch => ?_⟩
    simp [resetTracker]

/-! ### The commands of a tick -/

theorem runCommands_append {is : List Instr} {s t : State} (h : runCommands is s = some t) (js : List Instr) :
    runCommands (is ++ js) s = runCommands js t := by
  induction is generalizing s with
  | nil =>
    cases h
    rfl
  | cons i is ih =>
    obtain ⟨s', hs'⟩ := commandStep_completes i s
    rw [runCommands_cons hs'] at h
    rw [List.cons_append, runCommands_cons hs', ih h]

/-- Between detect and mix a tick that keeps the host's duties issues commands of the map phase only (R300). -/
theorem Tick.mapPhaseCommand_of_mem {k : Tick} (hk : k.wellFormed = true) {i : Instr} (hi : i ∈ k.map) :
    mapPhaseCommand i = true := by
  simp only [wellFormed, Bool.and_eq_true, List.all_eq_true] at hk
  obtain ⟨⟨-, hphase⟩, -⟩ := hk
  exact hphase i hi

/-- The detect phase steps no channel twice (R301). -/
theorem Tick.nodup_detect {k : Tick} (hk : k.wellFormed = true) : (k.detect.map Prod.fst).Nodup := by
  simp only [wellFormed, Bool.and_eq_true, decide_eq_true_eq] at hk
  obtain ⟨⟨hperm, -⟩, -⟩ := hk
  exact hperm.nodup_iff.mpr (by decide)

theorem clrstat_not_mem_mixingPass (quad : Bool) (inputs : PerChannel MixInput) : Instr.clrstat ∉ mixingPass quad inputs := by
  cases quad <;> simp [mixingPass]

theorem Tick.clrstat_not_mem_commands {k : Tick} (hk : k.wellFormed = true) : Instr.clrstat ∉ k.commands := by
  have hmap : Instr.clrstat ∉ k.map := fun hmem => Bool.false_ne_true (mapPhaseCommand_of_mem hk hmem)
  simp [commands, hmap, clrstat_not_mem_mixingPass]

/-- A tick cut at a channel's RTSTEP: the commands before it are RTSTEPs on other channels, and no RTSTEP on the channel follows. -/
theorem Tick.commands_eq_append {k : Tick} (hk : k.wellFormed = true) {ch : Channel} {x : Code} (hx : (ch, x) ∈ k.detect) :
    ∃ before after, k.commands = before ++ .rtstep ch x :: after ∧
      (∀ i ∈ before, trackerChannel i ≠ some ch) ∧ ∀ y, Instr.rtstep ch y ∉ after := by
  obtain ⟨pre, post, hdetect⟩ := List.append_of_mem hx
  have hnodup := k.nodup_detect hk
  rw [hdetect, List.map_append, List.map_cons, List.nodup_middle, List.nodup_cons, List.mem_append, not_or] at hnodup
  obtain ⟨⟨hpre, hpost⟩, -⟩ := hnodup
  refine ⟨pre.map fun cx => .rtstep cx.1 cx.2, post.map (fun cx => .rtstep cx.1 cx.2) ++ k.map ++ mixingPass k.quad k.mix,
    by simp [commands, hdetect], fun i hi => ?before, fun y hy => ?after⟩
  case before =>
    obtain ⟨cx, hcx, rfl⟩ := List.mem_map.mp hi
    rintro ⟨⟩
    exact hpre (List.mem_map.mpr ⟨cx, hcx, rfl⟩)
  case after =>
    rw [List.mem_append, List.mem_append] at hy
    obtain (hdet | hmap) | hmix := hy
    · obtain ⟨cx, hcx, heq⟩ := List.mem_map.mp hdet
      cases heq
      exact hpost (List.mem_map.mpr ⟨cx, hcx, rfl⟩)
    · exact Bool.false_ne_true (mapPhaseCommand_of_mem hk hmap)
    · exact rtstep_not_mem_mixingPass _ _ _ _ hmix

/-! ### What a sequence of commands leaves unchanged -/

theorem runCommands_inbox {is : List Instr} {s t : State} (h : runCommands is s = some t) : t.inbox = s.inbox := by
  refine runCommands_keeps (P := fun u => u.inbox = s.inbox) h (fun i _ u v hstep hu => ?_) rfl
  rw [commandStep_eq_exec] at hstep
  exact (exec_inbox hstep).trans hu

/-- ILL is unchanged by commands that are not CLRSTAT (R23). -/
theorem runCommands_ill {is : List Instr} {s t : State} (h : runCommands is s = some t) (hclr : Instr.clrstat ∉ is) :
    t.stat.ill = s.stat.ill := by
  refine runCommands_keeps (P := fun u => u.stat.ill = s.stat.ill) h (fun i hi u v hstep hu => ?_) rfl
  rw [commandStep_eq_exec] at hstep
  obtain ⟨rfl, -⟩ | ⟨-, hill, -⟩ := commandsWriteStatOnlyAsStated i _ v hstep
  · exact absurd hi hclr
  · exact hill.trans hu

/-- A tracker is unchanged by commands on other channels (R157). -/
theorem runCommands_tracker_of_other {is : List Instr} {s t : State} {ch : Channel} (h : runCommands is s = some t)
    (hother : ∀ i ∈ is, trackerChannel i ≠ some ch) : t.rt.get ch = s.rt.get ch := by
  refine runCommands_keeps (P := fun u => u.rt.get ch = s.rt.get ch) h (fun i hi u v hstep hu => ?_) rfl
  rw [commandStep_eq_exec] at hstep
  exact (trackersAreIndependent.1 i _ v ch hstep (hother i hi)).trans hu

/-- What an RTSTEP found on the channel: the registers that no other command writes (R24). -/
def Tracker.outcome (r : Tracker) : Bool × Code := (r.triggered, r.prev)

theorem exec_outcome {i : Instr} {s t : State} {ch : Channel} (h : exec i s = .next t) (hno : ∀ x, i ≠ .rtstep ch x) :
    (t.rt.get ch).outcome = (s.rt.get ch).outcome := by
  obtain ⟨x, hi, -⟩ | ⟨-, ht⟩ | ⟨-, ht⟩ | ht := exec_tracker_cases h ch
  · exact absurd hi (hno x)
  · rw [ht]
    rfl
  · rw [ht]
    rfl
  · rw [ht]

theorem runCommands_outcome {is : List Instr} {s t : State} {ch : Channel} (h : runCommands is s = some t)
    (hno : ∀ x, Instr.rtstep ch x ∉ is) : (t.rt.get ch).outcome = (s.rt.get ch).outcome := by
  refine runCommands_keeps (P := fun u => (u.rt.get ch).outcome = (s.rt.get ch).outcome) h (fun i hi u v hstep hu => ?_) rfl
  rw [commandStep_eq_exec] at hstep
  exact (exec_outcome hstep fun x hx => hno x (hx ▸ hi)).trans hu

theorem commandStep_rtstep_get {s t : State} {ch : Channel} {x : Code} (h : commandStep (.rtstep ch x) s = .next t) :
    t.rt.get ch = trackerStep Config.hardware (s.rt.get ch) x := by
  rw [commandStep_eq_exec] at h
  cases h
  exact PerChannel.get_set_self ..

/-! ### The outcome of a tick -/

/-- A tick leaves on a channel the outcome of the channel's RTSTEP on the tracker the tick began with. -/
theorem Tick.run_outcome {k : Tick} (hk : k.wellFormed = true) {s t : State} (h : runCommands k.commands s = some t)
    {ch : Channel} {x : Code} (hx : (ch, x) ∈ k.detect) :
    (t.rt.get ch).outcome = (trackerStep Config.hardware (s.rt.get ch) x).outcome := by
  obtain ⟨before, after, hcommands, hbefore, hafter⟩ := k.commands_eq_append hk hx
  obtain ⟨u, hu⟩ := runCommands_completes before s
  obtain ⟨v, hv⟩ := commandStep_completes (.rtstep ch x) u
  rw [hcommands, runCommands_append hu, runCommands_cons hv] at h
  rw [runCommands_outcome h hafter, commandStep_rtstep_get hv, runCommands_tracker_of_other hu hbefore]

/-- Settles O57: on each channel the tick is cut at the channel's one RTSTEP, whose condition to fire is `fires_iff`. -/
theorem tickDetectsEachChannelOnce : Obligations.TickDetectsEachChannelOnce := by
  intro k s hk
  obtain ⟨t, ht⟩ := runCommands_completes k.commands s
  refine ⟨t, ht, runCommands_ill ht (k.clrstat_not_mem_commands hk), runCommands_inbox ht, fun ch x hx => ?_⟩
  obtain ⟨htriggered, hprev⟩ := Prod.mk.inj (k.run_outcome hk ht hx)
  rw [htriggered, trackerStep_triggered, fires_iff]
  exact ⟨Iff.rfl, hprev⟩

end Sys2Proof.Machine
end
